-- ==== Sys2Proof/Word.lean ====
section
/-!
DEFINITION. The word types of the block (`spec/00_scope.md` R8, `spec/10_state.md` R13): bytes, the 16-lane window, lane
selections, and the numbering of lanes and groups. All quantities of the spec are unsigned.
-/

namespace Sys2Proof

/-- One byte: a `u8` of R8. -/
abbrev Byte := BitVec 8

/-- A vector value of 16 lanes, lane 0 first (R8). -/
abbrev Lanes (α : Type) := Vector α 16

/-- The read window `W`: 16 bytes, `W[i]` being character i of the text for i below the length (R42). -/
abbrev Window := Lanes Byte

/-- One descriptor entry, the LaneSel of R48: a source index 0 to 15, or "miss". The byte values 0x10 to 0xFE have no
behaviour and no value of this type stands for them (`spec/93_implementation_defined.md` U3). -/
inductive LaneSel where
  /-- this lane takes byte `i` of the window -/
  | index (i : Fin 16)
  /-- this lane takes no byte -/
  | miss
deriving DecidableEq, Repr, Inhabited

/-- A lane descriptor: 16 entries, lane 0 first (R48). -/
abbrev Descriptor := Lanes LaneSel

/-- The role of a lane in its group (R49). -/
inductive Role where
  | ones
  | tens
  | hundreds
  | spare
deriving DecidableEq, Repr

end Sys2Proof
end

