-- ==== Sys2Proof/Config.lean ====
section
/-!
DEFINITION. What is fixed for the block: the parameters the document fixes (`spec/00_scope.md` R5), the codes this spec
decides (R6, R41, R46, R48), and the FREE VALUES: constants without a body that stand for what the spec leaves open.
`LEN_W` and `LAT` (R7) are arguments of a machine: they stand in `Machine.State` (`lenW`, and the number of ranks of `pipe`).
-/

namespace Sys2Proof

/-- `MAXLEN` (R5): the greatest length that is not rejected outright. -/
def Config.maxLen : Nat := 15
/-- `NPAT` (R5): the number of lane descriptors. -/
def Config.nPat : Nat := 81
/-- `HASH_MUL` (R5). -/
def Config.hashMul : Nat := 6639
/-- `HASH_SHIFT` (R5). -/
def Config.hashShift : Nat := 13
/-- `DIGIT_MAX` (R5). -/
def Config.digitMax : Nat := 9
/-- `OCTET_MAX` (R5). -/
def Config.octetMax : Nat := 255
/-- The miss placeholder of a gathered lane (R5, R77). -/
def Config.missByte : Byte := 0x00
/-- `SEP`, the character "." (R41). -/
def Config.sep : Byte := 0x2E
/-- `ZERO`, the character "0" (R41). -/
def Config.zero : Byte := 0x30
/-- The sentinel that `PIDROM` stores (R46). -/
def Config.sentinel : Byte := 0xFF
/-- The byte of a "miss" entry in the `DESCROM` image (R48). -/
def Config.missSel : Byte := 0xFF

/-- FREE VALUE (DESIGN CHOICE, log entry 6): what `LENMASK` gives for a length above 15, beside the chain. R63 defines it for
`LEN` ≤ 15; `spec/93_implementation_defined.md` U4: "any value"; R104: "extended to its whole input domain in some way". -/
opaque Config.lenmaskBeyond : BitVec 16 → Nat → BitVec 16

/-- FREE VALUE (DESIGN CHOICE, log entry 7): what `SHAPECONF` reads for a PatternID of 81 or more, where `XBMROM` has no
entry (R104: "reads some fixed row"). -/
opaque Config.xbmBeyond : Byte → BitVec 16

/-- FREE VALUE (DESIGN CHOICE, log entry 7): what `DESCSEL` fetches for a PatternID of 81 or more, where no descriptor exists
(R70: "may fetch some row"). -/
opaque Config.descBeyond : Byte → Descriptor

/-- FREE VALUE (DESIGN CHOICE, log entry 8): the window held by a pipeline data register whose contents the spec leaves
unspecified (R22, R130), by serial number. -/
opaque Config.rankWindow : Nat → Window

/-- FREE VALUE (DESIGN CHOICE, log entry 8): the length held by such a register. -/
opaque Config.rankLength : Nat → Nat

end Sys2Proof
end

