-- ==== Sys2Proof/Syntax.lean ====
section
/-!
DEFINITION. The instructions: one constructor per row of `spec/opcode_table.json` (`spec/30_encoding.md` R56, R57). The 19
stage operations of R56, the two composed operations `PARSE` and `LOAD`, and the 81 legal bitmaps (the `SHAPE` rows). None of
them has an operand field: the operands are named datapath values (`spec/10_state.md` R13).
-/

namespace Sys2Proof

/-- A shape: the four group lengths, each 1 to 3 in a legal one (R44). -/
structure Shape where
  l0 : Nat
  l1 : Nat
  l2 : Nat
  l3 : Nat
deriving DecidableEq, Repr

/-- The instructions, in the table's order. -/
inductive Instr where
  /-- `LENCHK`: ordinal 0, gate G0 (R60) -/
  | lenchk
  /-- `CMPSEP`: ordinal 1 (R61) -/
  | cmpsep
  /-- `BITMASK`: ordinal 2 (R62) -/
  | bitmask
  /-- `LENMASK`: ordinal 3 (R63) -/
  | lenmask
  /-- `HASH`: ordinal 4 (R67) -/
  | hash
  /-- `PIDLOOK`: ordinal 5, gate G1 (R68) -/
  | pidlook
  /-- `SHAPECONF`: ordinal 6, gate G2 (R69) -/
  | shapeconf
  /-- `DESCSEL`: ordinal 7 (R70) -/
  | descsel
  /-- `GATHER`: ordinal 8 (R75) -/
  | gather
  /-- `LZCHK`: ordinal 9, gate G3 (R79) -/
  | lzchk
  /-- `CANON`: ordinal 10 (R81) -/
  | canon
  /-- `SUBZERO`: ordinal 11 (R82) -/
  | subzero
  /-- `DIGCHK`: ordinal 12, gate G4 (R83) -/
  | digchk
  /-- `WMUL`: ordinal 13 (R86) -/
  | wmul
  /-- `PAIRADD`: ordinal 14 (R87) -/
  | pairadd
  /-- `FOLD`: ordinal 15 (R88) -/
  | fold
  /-- `OVFCHK`: ordinal 16, gate G5 (R89) -/
  | ovfchk
  /-- `NARROW`: ordinal 17 (R93) -/
  | narrow
  /-- `PACK`: ordinal 18 (R94) -/
  | pack
  /-- `PARSE`: the whole chain (R97), row key 0x13 -/
  | parse
  /-- `LOAD`: the host's loader (R32), row key 0x14 -/
  | load
  -- the 81 legal bitmaps (R44, R50, R57): `shape` followed by the four group lengths
  | shape1111 | shape1112 | shape1113 | shape1121 | shape1122 | shape1123 | shape1131 | shape1132 | shape1133
  | shape1211 | shape1212 | shape1213 | shape1221 | shape1222 | shape1223 | shape1231 | shape1232 | shape1233
  | shape1311 | shape1312 | shape1313 | shape1321 | shape1322 | shape1323 | shape1331 | shape1332 | shape1333
  | shape2111 | shape2112 | shape2113 | shape2121 | shape2122 | shape2123 | shape2131 | shape2132 | shape2133
  | shape2211 | shape2212 | shape2213 | shape2221 | shape2222 | shape2223 | shape2231 | shape2232 | shape2233
  | shape2311 | shape2312 | shape2313 | shape2321 | shape2322 | shape2323 | shape2331 | shape2332 | shape2333
  | shape3111 | shape3112 | shape3113 | shape3121 | shape3122 | shape3123 | shape3131 | shape3132 | shape3133
  | shape3211 | shape3212 | shape3213 | shape3221 | shape3222 | shape3223 | shape3231 | shape3232 | shape3233
  | shape3311 | shape3312 | shape3313 | shape3321 | shape3322 | shape3323 | shape3331 | shape3332 | shape3333
deriving DecidableEq, Repr

/-- The mnemonic of a row, letter for letter (R56, R57). -/
def Instr.mnemonic : Instr → String
  | .lenchk => "LENCHK"
  | .cmpsep => "CMPSEP"
  | .bitmask => "BITMASK"
  | .lenmask => "LENMASK"
  | .hash => "HASH"
  | .pidlook => "PIDLOOK"
  | .shapeconf => "SHAPECONF"
  | .descsel => "DESCSEL"
  | .gather => "GATHER"
  | .lzchk => "LZCHK"
  | .canon => "CANON"
  | .subzero => "SUBZERO"
  | .digchk => "DIGCHK"
  | .wmul => "WMUL"
  | .pairadd => "PAIRADD"
  | .fold => "FOLD"
  | .ovfchk => "OVFCHK"
  | .narrow => "NARROW"
  | .pack => "PACK"
  | .parse => "PARSE"
  | .load => "LOAD"
  | .shape1111 => "SHAPE_1111"
  | .shape1112 => "SHAPE_1112"
  | .shape1113 => "SHAPE_1113"
  | .shape1121 => "SHAPE_1121"
  | .shape1122 => "SHAPE_1122"
  | .shape1123 => "SHAPE_1123"
  | .shape1131 => "SHAPE_1131"
  | .shape1132 => "SHAPE_1132"
  | .shape1133 => "SHAPE_1133"
  | .shape1211 => "SHAPE_1211"
  | .shape1212 => "SHAPE_1212"
  | .shape1213 => "SHAPE_1213"
  | .shape1221 => "SHAPE_1221"
  | .shape1222 => "SHAPE_1222"
  | .shape1223 => "SHAPE_1223"
  | .shape1231 => "SHAPE_1231"
  | .shape1232 => "SHAPE_1232"
  | .shape1233 => "SHAPE_1233"
  | .shape1311 => "SHAPE_1311"
  | .shape1312 => "SHAPE_1312"
  | .shape1313 => "SHAPE_1313"
  | .shape1321 => "SHAPE_1321"
  | .shape1322 => "SHAPE_1322"
  | .shape1323 => "SHAPE_1323"
  | .shape1331 => "SHAPE_1331"
  | .shape1332 => "SHAPE_1332"
  | .shape1333 => "SHAPE_1333"
  | .shape2111 => "SHAPE_2111"
  | .shape2112 => "SHAPE_2112"
  | .shape2113 => "SHAPE_2113"
  | .shape2121 => "SHAPE_2121"
  | .shape2122 => "SHAPE_2122"
  | .shape2123 => "SHAPE_2123"
  | .shape2131 => "SHAPE_2131"
  | .shape2132 => "SHAPE_2132"
  | .shape2133 => "SHAPE_2133"
  | .shape2211 => "SHAPE_2211"
  | .shape2212 => "SHAPE_2212"
  | .shape2213 => "SHAPE_2213"
  | .shape2221 => "SHAPE_2221"
  | .shape2222 => "SHAPE_2222"
  | .shape2223 => "SHAPE_2223"
  | .shape2231 => "SHAPE_2231"
  | .shape2232 => "SHAPE_2232"
  | .shape2233 => "SHAPE_2233"
  | .shape2311 => "SHAPE_2311"
  | .shape2312 => "SHAPE_2312"
  | .shape2313 => "SHAPE_2313"
  | .shape2321 => "SHAPE_2321"
  | .shape2322 => "SHAPE_2322"
  | .shape2323 => "SHAPE_2323"
  | .shape2331 => "SHAPE_2331"
  | .shape2332 => "SHAPE_2332"
  | .shape2333 => "SHAPE_2333"
  | .shape3111 => "SHAPE_3111"
  | .shape3112 => "SHAPE_3112"
  | .shape3113 => "SHAPE_3113"
  | .shape3121 => "SHAPE_3121"
  | .shape3122 => "SHAPE_3122"
  | .shape3123 => "SHAPE_3123"
  | .shape3131 => "SHAPE_3131"
  | .shape3132 => "SHAPE_3132"
  | .shape3133 => "SHAPE_3133"
  | .shape3211 => "SHAPE_3211"
  | .shape3212 => "SHAPE_3212"
  | .shape3213 => "SHAPE_3213"
  | .shape3221 => "SHAPE_3221"
  | .shape3222 => "SHAPE_3222"
  | .shape3223 => "SHAPE_3223"
  | .shape3231 => "SHAPE_3231"
  | .shape3232 => "SHAPE_3232"
  | .shape3233 => "SHAPE_3233"
  | .shape3311 => "SHAPE_3311"
  | .shape3312 => "SHAPE_3312"
  | .shape3313 => "SHAPE_3313"
  | .shape3321 => "SHAPE_3321"
  | .shape3322 => "SHAPE_3322"
  | .shape3323 => "SHAPE_3323"
  | .shape3331 => "SHAPE_3331"
  | .shape3332 => "SHAPE_3332"
  | .shape3333 => "SHAPE_3333"

/-- The shape of a `SHAPE` row (R57: the mnemonic is `SHAPE_` followed by the four group lengths); none for the other rows. -/
def Instr.shape? : Instr → Option Shape
  | .lenchk | .cmpsep | .bitmask | .lenmask | .hash | .pidlook | .shapeconf
  | .descsel | .gather | .lzchk | .canon | .subzero | .digchk | .wmul
  | .pairadd | .fold | .ovfchk | .narrow | .pack | .parse | .load => none
  | .shape1111 => some ⟨1, 1, 1, 1⟩
  | .shape1112 => some ⟨1, 1, 1, 2⟩
  | .shape1113 => some ⟨1, 1, 1, 3⟩
  | .shape1121 => some ⟨1, 1, 2, 1⟩
  | .shape1122 => some ⟨1, 1, 2, 2⟩
  | .shape1123 => some ⟨1, 1, 2, 3⟩
  | .shape1131 => some ⟨1, 1, 3, 1⟩
  | .shape1132 => some ⟨1, 1, 3, 2⟩
  | .shape1133 => some ⟨1, 1, 3, 3⟩
  | .shape1211 => some ⟨1, 2, 1, 1⟩
  | .shape1212 => some ⟨1, 2, 1, 2⟩
  | .shape1213 => some ⟨1, 2, 1, 3⟩
  | .shape1221 => some ⟨1, 2, 2, 1⟩
  | .shape1222 => some ⟨1, 2, 2, 2⟩
  | .shape1223 => some ⟨1, 2, 2, 3⟩
  | .shape1231 => some ⟨1, 2, 3, 1⟩
  | .shape1232 => some ⟨1, 2, 3, 2⟩
  | .shape1233 => some ⟨1, 2, 3, 3⟩
  | .shape1311 => some ⟨1, 3, 1, 1⟩
  | .shape1312 => some ⟨1, 3, 1, 2⟩
  | .shape1313 => some ⟨1, 3, 1, 3⟩
  | .shape1321 => some ⟨1, 3, 2, 1⟩
  | .shape1322 => some ⟨1, 3, 2, 2⟩
  | .shape1323 => some ⟨1, 3, 2, 3⟩
  | .shape1331 => some ⟨1, 3, 3, 1⟩
  | .shape1332 => some ⟨1, 3, 3, 2⟩
  | .shape1333 => some ⟨1, 3, 3, 3⟩
  | .shape2111 => some ⟨2, 1, 1, 1⟩
  | .shape2112 => some ⟨2, 1, 1, 2⟩
  | .shape2113 => some ⟨2, 1, 1, 3⟩
  | .shape2121 => some ⟨2, 1, 2, 1⟩
  | .shape2122 => some ⟨2, 1, 2, 2⟩
  | .shape2123 => some ⟨2, 1, 2, 3⟩
  | .shape2131 => some ⟨2, 1, 3, 1⟩
  | .shape2132 => some ⟨2, 1, 3, 2⟩
  | .shape2133 => some ⟨2, 1, 3, 3⟩
  | .shape2211 => some ⟨2, 2, 1, 1⟩
  | .shape2212 => some ⟨2, 2, 1, 2⟩
  | .shape2213 => some ⟨2, 2, 1, 3⟩
  | .shape2221 => some ⟨2, 2, 2, 1⟩
  | .shape2222 => some ⟨2, 2, 2, 2⟩
  | .shape2223 => some ⟨2, 2, 2, 3⟩
  | .shape2231 => some ⟨2, 2, 3, 1⟩
  | .shape2232 => some ⟨2, 2, 3, 2⟩
  | .shape2233 => some ⟨2, 2, 3, 3⟩
  | .shape2311 => some ⟨2, 3, 1, 1⟩
  | .shape2312 => some ⟨2, 3, 1, 2⟩
  | .shape2313 => some ⟨2, 3, 1, 3⟩
  | .shape2321 => some ⟨2, 3, 2, 1⟩
  | .shape2322 => some ⟨2, 3, 2, 2⟩
  | .shape2323 => some ⟨2, 3, 2, 3⟩
  | .shape2331 => some ⟨2, 3, 3, 1⟩
  | .shape2332 => some ⟨2, 3, 3, 2⟩
  | .shape2333 => some ⟨2, 3, 3, 3⟩
  | .shape3111 => some ⟨3, 1, 1, 1⟩
  | .shape3112 => some ⟨3, 1, 1, 2⟩
  | .shape3113 => some ⟨3, 1, 1, 3⟩
  | .shape3121 => some ⟨3, 1, 2, 1⟩
  | .shape3122 => some ⟨3, 1, 2, 2⟩
  | .shape3123 => some ⟨3, 1, 2, 3⟩
  | .shape3131 => some ⟨3, 1, 3, 1⟩
  | .shape3132 => some ⟨3, 1, 3, 2⟩
  | .shape3133 => some ⟨3, 1, 3, 3⟩
  | .shape3211 => some ⟨3, 2, 1, 1⟩
  | .shape3212 => some ⟨3, 2, 1, 2⟩
  | .shape3213 => some ⟨3, 2, 1, 3⟩
  | .shape3221 => some ⟨3, 2, 2, 1⟩
  | .shape3222 => some ⟨3, 2, 2, 2⟩
  | .shape3223 => some ⟨3, 2, 2, 3⟩
  | .shape3231 => some ⟨3, 2, 3, 1⟩
  | .shape3232 => some ⟨3, 2, 3, 2⟩
  | .shape3233 => some ⟨3, 2, 3, 3⟩
  | .shape3311 => some ⟨3, 3, 1, 1⟩
  | .shape3312 => some ⟨3, 3, 1, 2⟩
  | .shape3313 => some ⟨3, 3, 1, 3⟩
  | .shape3321 => some ⟨3, 3, 2, 1⟩
  | .shape3322 => some ⟨3, 3, 2, 2⟩
  | .shape3323 => some ⟨3, 3, 2, 3⟩
  | .shape3331 => some ⟨3, 3, 3, 1⟩
  | .shape3332 => some ⟨3, 3, 3, 2⟩
  | .shape3333 => some ⟨3, 3, 3, 3⟩

/-- The code an instruction is known by. A stage operation and the two composed ones have a five-bit row key (R57: `mask`
is 0x1F); a legal shape has the 16-bit SeparatorBitmap itself ("this hardware's opcode", R43, R57). The two are looked up in
different places, the stage index and the datapath value `BM`, and never mix. -/
inductive Code where
  | stage (key : BitVec 5)
  | bitmap (bm : BitVec 16)
deriving DecidableEq, Repr

/-- Why a code is no instruction. -/
inductive DecodeReject where
  /-- a row key 0x15 to 0x1F: no row of the table has it (R56, R57) -/
  | noStageRow (key : BitVec 5)
  /-- a bitmap that is not one of the 81 legal ones: the block rejects the input (R55) -/
  | illegalBitmap (bm : BitVec 16)
  /-- a byte string that is neither one byte nor two, or a one-byte word with a bit above bit 4 set -/
  | noCode
deriving DecidableEq, Repr

end Sys2Proof
end

