-- ==== Sys2Proof/WellFormed.lean ====
section
/-!
DEFINITION. The checks a term of the syntax must pass. The instructions carry no operand fields, so that every term of
`Instr` is well formed by its type; what can be ill formed is a shape (R44), a row key (R57) and a descriptor byte (R48).
-/

namespace Sys2Proof

/-- A group has 1, 2 or 3 characters (R5, R44). -/
def groupLengthOk (l : Nat) : Bool := decide (1 ≤ l ∧ l ≤ 3)

/-- A legal shape: "every l in 1, 2, 3" (R44). -/
def Shape.wellFormed (sh : Shape) : Bool :=
  groupLengthOk sh.l0 && groupLengthOk sh.l1 && groupLengthOk sh.l2 && groupLengthOk sh.l3

/-- A row key stands for a row: 0 to 18 are the ordinals, 0x13 is `PARSE`, 0x14 is `LOAD` (R56, R57). -/
def stageKeyOk (key : BitVec 5) : Bool := decide (key.toNat ≤ 0x14)

/-- A descriptor byte that `DESCROM` may hold: 0x00 to 0x0F, or 0xFF (R48). -/
def laneByteOk (b : Byte) : Bool := decide (b.toNat ≤ 0x0F) || b == Config.missSel

/-- An instruction is well formed when the shape it names, if it names one, is legal (R44, R57). -/
def Instr.wellFormed (i : Instr) : Bool :=
  match i.shape? with
  | some sh => sh.wellFormed
  | none => true

end Sys2Proof
end

