-- ==== Sys2Proof/Decode.lean ====
section
/-!
DEFINITION. The decoders and the encoder. A row key is decoded by `decodeStage` (`spec/30_encoding.md` R56, R57), a
SeparatorBitmap by `decodeBitmap`, from the `SHAPE` rows alone (R57: "a bitmap equal to some row's match selects that row's
descriptor; any other bitmap is rejected"). `encode` is written from the same table, arm by arm.
-/

namespace Sys2Proof

/-- The instruction of a row key (R56, R57); the keys 0x15 to 0x1F have no row. -/
def decodeStage (key : BitVec 5) : Except DecodeReject Instr :=
  match key.toNat with
  | 0x00 => .ok .lenchk
  | 0x01 => .ok .cmpsep
  | 0x02 => .ok .bitmask
  | 0x03 => .ok .lenmask
  | 0x04 => .ok .hash
  | 0x05 => .ok .pidlook
  | 0x06 => .ok .shapeconf
  | 0x07 => .ok .descsel
  | 0x08 => .ok .gather
  | 0x09 => .ok .lzchk
  | 0x0A => .ok .canon
  | 0x0B => .ok .subzero
  | 0x0C => .ok .digchk
  | 0x0D => .ok .wmul
  | 0x0E => .ok .pairadd
  | 0x0F => .ok .fold
  | 0x10 => .ok .ovfchk
  | 0x11 => .ok .narrow
  | 0x12 => .ok .pack
  | 0x13 => .ok .parse
  | 0x14 => .ok .load
  | _ => .error (.noStageRow key)

/-- One `SHAPE` row: its `match` word and its instruction (R57). -/
structure ShapeRow where
  word : BitVec 16
  instr : Instr
deriving DecidableEq, Repr

/-- The `SHAPE` rows of PatternID 0 to 8 (R51). -/
def shapeRows0 : List ShapeRow := [
  ⟨0x00AA, .shape1111⟩, ⟨0x012A, .shape1112⟩, ⟨0x022A, .shape1113⟩,
  ⟨0x014A, .shape1121⟩, ⟨0x024A, .shape1122⟩, ⟨0x044A, .shape1123⟩,
  ⟨0x028A, .shape1131⟩, ⟨0x048A, .shape1132⟩, ⟨0x088A, .shape1133⟩]

/-- The `SHAPE` rows of PatternID 9 to 17 (R51). -/
def shapeRows1 : List ShapeRow := [
  ⟨0x0152, .shape1211⟩, ⟨0x0252, .shape1212⟩, ⟨0x0452, .shape1213⟩,
  ⟨0x0292, .shape1221⟩, ⟨0x0492, .shape1222⟩, ⟨0x0892, .shape1223⟩,
  ⟨0x0512, .shape1231⟩, ⟨0x0912, .shape1232⟩, ⟨0x1112, .shape1233⟩]

/-- The `SHAPE` rows of PatternID 18 to 26 (R51). -/
def shapeRows2 : List ShapeRow := [
  ⟨0x02A2, .shape1311⟩, ⟨0x04A2, .shape1312⟩, ⟨0x08A2, .shape1313⟩,
  ⟨0x0522, .shape1321⟩, ⟨0x0922, .shape1322⟩, ⟨0x1122, .shape1323⟩,
  ⟨0x0A22, .shape1331⟩, ⟨0x1222, .shape1332⟩, ⟨0x2222, .shape1333⟩]

/-- The `SHAPE` rows of PatternID 27 to 35 (R51). -/
def shapeRows3 : List ShapeRow := [
  ⟨0x0154, .shape2111⟩, ⟨0x0254, .shape2112⟩, ⟨0x0454, .shape2113⟩,
  ⟨0x0294, .shape2121⟩, ⟨0x0494, .shape2122⟩, ⟨0x0894, .shape2123⟩,
  ⟨0x0514, .shape2131⟩, ⟨0x0914, .shape2132⟩, ⟨0x1114, .shape2133⟩]

/-- The `SHAPE` rows of PatternID 36 to 44 (R51). -/
def shapeRows4 : List ShapeRow := [
  ⟨0x02A4, .shape2211⟩, ⟨0x04A4, .shape2212⟩, ⟨0x08A4, .shape2213⟩,
  ⟨0x0524, .shape2221⟩, ⟨0x0924, .shape2222⟩, ⟨0x1124, .shape2223⟩,
  ⟨0x0A24, .shape2231⟩, ⟨0x1224, .shape2232⟩, ⟨0x2224, .shape2233⟩]

/-- The `SHAPE` rows of PatternID 45 to 53 (R51). -/
def shapeRows5 : List ShapeRow := [
  ⟨0x0544, .shape2311⟩, ⟨0x0944, .shape2312⟩, ⟨0x1144, .shape2313⟩,
  ⟨0x0A44, .shape2321⟩, ⟨0x1244, .shape2322⟩, ⟨0x2244, .shape2323⟩,
  ⟨0x1444, .shape2331⟩, ⟨0x2444, .shape2332⟩, ⟨0x4444, .shape2333⟩]

/-- The `SHAPE` rows of PatternID 54 to 62 (R51). -/
def shapeRows6 : List ShapeRow := [
  ⟨0x02A8, .shape3111⟩, ⟨0x04A8, .shape3112⟩, ⟨0x08A8, .shape3113⟩,
  ⟨0x0528, .shape3121⟩, ⟨0x0928, .shape3122⟩, ⟨0x1128, .shape3123⟩,
  ⟨0x0A28, .shape3131⟩, ⟨0x1228, .shape3132⟩, ⟨0x2228, .shape3133⟩]

/-- The `SHAPE` rows of PatternID 63 to 71 (R51). -/
def shapeRows7 : List ShapeRow := [
  ⟨0x0548, .shape3211⟩, ⟨0x0948, .shape3212⟩, ⟨0x1148, .shape3213⟩,
  ⟨0x0A48, .shape3221⟩, ⟨0x1248, .shape3222⟩, ⟨0x2248, .shape3223⟩,
  ⟨0x1448, .shape3231⟩, ⟨0x2448, .shape3232⟩, ⟨0x4448, .shape3233⟩]

/-- The `SHAPE` rows of PatternID 72 to 80 (R51). -/
def shapeRows8 : List ShapeRow := [
  ⟨0x0A88, .shape3311⟩, ⟨0x1288, .shape3312⟩, ⟨0x2288, .shape3313⟩,
  ⟨0x1488, .shape3321⟩, ⟨0x2488, .shape3322⟩, ⟨0x4488, .shape3323⟩,
  ⟨0x2888, .shape3331⟩, ⟨0x4888, .shape3332⟩, ⟨0x8888, .shape3333⟩]

/-- The 81 `SHAPE` rows, in the order of the PatternIDs (R51, R57). -/
def shapeRows : List ShapeRow :=
  shapeRows0 ++ shapeRows1 ++ shapeRows2 ++ shapeRows3 ++ shapeRows4 ++ shapeRows5 ++ shapeRows6 ++ shapeRows7 ++ shapeRows8

/-- The instruction of a bitmap: the row whose `match` equals it; every bit is significant (R55, R57). -/
def decodeBitmap (bm : BitVec 16) : Except DecodeReject Instr :=
  match shapeRows.find? (fun r => r.word == bm) with
  | some r => .ok r.instr
  | none => .error (.illegalBitmap bm)

/-- The decoder: total, rejecting by name. -/
def decode : Code → Except DecodeReject Instr
  | .stage key => decodeStage key
  | .bitmap bm => decodeBitmap bm

/-- The code of an instruction, from the table's `match` column (R56, R57). -/
def encode : Instr → Code
  | .lenchk => .stage 0x00
  | .cmpsep => .stage 0x01
  | .bitmask => .stage 0x02
  | .lenmask => .stage 0x03
  | .hash => .stage 0x04
  | .pidlook => .stage 0x05
  | .shapeconf => .stage 0x06
  | .descsel => .stage 0x07
  | .gather => .stage 0x08
  | .lzchk => .stage 0x09
  | .canon => .stage 0x0A
  | .subzero => .stage 0x0B
  | .digchk => .stage 0x0C
  | .wmul => .stage 0x0D
  | .pairadd => .stage 0x0E
  | .fold => .stage 0x0F
  | .ovfchk => .stage 0x10
  | .narrow => .stage 0x11
  | .pack => .stage 0x12
  | .parse => .stage 0x13
  | .load => .stage 0x14
  | .shape1111 => .bitmap 0x00AA
  | .shape1112 => .bitmap 0x012A
  | .shape1113 => .bitmap 0x022A
  | .shape1121 => .bitmap 0x014A
  | .shape1122 => .bitmap 0x024A
  | .shape1123 => .bitmap 0x044A
  | .shape1131 => .bitmap 0x028A
  | .shape1132 => .bitmap 0x048A
  | .shape1133 => .bitmap 0x088A
  | .shape1211 => .bitmap 0x0152
  | .shape1212 => .bitmap 0x0252
  | .shape1213 => .bitmap 0x0452
  | .shape1221 => .bitmap 0x0292
  | .shape1222 => .bitmap 0x0492
  | .shape1223 => .bitmap 0x0892
  | .shape1231 => .bitmap 0x0512
  | .shape1232 => .bitmap 0x0912
  | .shape1233 => .bitmap 0x1112
  | .shape1311 => .bitmap 0x02A2
  | .shape1312 => .bitmap 0x04A2
  | .shape1313 => .bitmap 0x08A2
  | .shape1321 => .bitmap 0x0522
  | .shape1322 => .bitmap 0x0922
  | .shape1323 => .bitmap 0x1122
  | .shape1331 => .bitmap 0x0A22
  | .shape1332 => .bitmap 0x1222
  | .shape1333 => .bitmap 0x2222
  | .shape2111 => .bitmap 0x0154
  | .shape2112 => .bitmap 0x0254
  | .shape2113 => .bitmap 0x0454
  | .shape2121 => .bitmap 0x0294
  | .shape2122 => .bitmap 0x0494
  | .shape2123 => .bitmap 0x0894
  | .shape2131 => .bitmap 0x0514
  | .shape2132 => .bitmap 0x0914
  | .shape2133 => .bitmap 0x1114
  | .shape2211 => .bitmap 0x02A4
  | .shape2212 => .bitmap 0x04A4
  | .shape2213 => .bitmap 0x08A4
  | .shape2221 => .bitmap 0x0524
  | .shape2222 => .bitmap 0x0924
  | .shape2223 => .bitmap 0x1124
  | .shape2231 => .bitmap 0x0A24
  | .shape2232 => .bitmap 0x1224
  | .shape2233 => .bitmap 0x2224
  | .shape2311 => .bitmap 0x0544
  | .shape2312 => .bitmap 0x0944
  | .shape2313 => .bitmap 0x1144
  | .shape2321 => .bitmap 0x0A44
  | .shape2322 => .bitmap 0x1244
  | .shape2323 => .bitmap 0x2244
  | .shape2331 => .bitmap 0x1444
  | .shape2332 => .bitmap 0x2444
  | .shape2333 => .bitmap 0x4444
  | .shape3111 => .bitmap 0x02A8
  | .shape3112 => .bitmap 0x04A8
  | .shape3113 => .bitmap 0x08A8
  | .shape3121 => .bitmap 0x0528
  | .shape3122 => .bitmap 0x0928
  | .shape3123 => .bitmap 0x1128
  | .shape3131 => .bitmap 0x0A28
  | .shape3132 => .bitmap 0x1228
  | .shape3133 => .bitmap 0x2228
  | .shape3211 => .bitmap 0x0548
  | .shape3212 => .bitmap 0x0948
  | .shape3213 => .bitmap 0x1148
  | .shape3221 => .bitmap 0x0A48
  | .shape3222 => .bitmap 0x1248
  | .shape3223 => .bitmap 0x2248
  | .shape3231 => .bitmap 0x1448
  | .shape3232 => .bitmap 0x2448
  | .shape3233 => .bitmap 0x4448
  | .shape3311 => .bitmap 0x0A88
  | .shape3312 => .bitmap 0x1288
  | .shape3313 => .bitmap 0x2288
  | .shape3321 => .bitmap 0x1488
  | .shape3322 => .bitmap 0x2488
  | .shape3323 => .bitmap 0x4488
  | .shape3331 => .bitmap 0x2888
  | .shape3332 => .bitmap 0x4888
  | .shape3333 => .bitmap 0x8888

/-- The code written as bytes, for the host's table words only (log entry 10): a row key is one byte whose bits 7 to 5 are 0; a
bitmap is two bytes, the first holding bits 7 to 0. -/
def codeOfBytes : List Byte → Except DecodeReject Code
  | [b] => if b.toNat < 32 then .ok (.stage (BitVec.ofNat 5 b.toNat)) else .error .noCode
  | [b0, b1] => .ok (.bitmap (b1 ++ b0))
  | _ => .error .noCode

/-- The decoder on bytes: total on any byte string. -/
def decodeBytes (bytes : List Byte) : Except DecodeReject Instr :=
  match codeOfBytes bytes with
  | .ok c => decode c
  | .error e => .error e

/-- The ordinal of a row key to whose five bits one more bit is added, bit `ordinal` itself (log entry 10): the reader's list of
the table gives the rows 5 to 18 a one-bit field at that place, which the spec's own table does not have. -/
def strayOrdinalBit (w : Nat) : Option Nat :=
  let o := w % 32
  if 5 ≤ o ∧ o ≤ 18 ∧ w = o + 2 ^ o then some o else none

/-- The bytes of the table word `w` of `nbits` bits: a key below 32 is one byte; otherwise a word of up to 8 bits is one byte
and a longer one two, the low byte first. -/
def tableBytes (nbits w : Nat) : List Byte :=
  if w < 32 then [BitVec.ofNat 8 w]
  else
    match strayOrdinalBit w with
    | some o => [BitVec.ofNat 8 o]
    | none =>
      if nbits ≤ 8 then [BitVec.ofNat 8 w]
      else if w < 65536 then [BitVec.ofNat 8 w, BitVec.ofNat 8 (w / 256)]
      else []

/-- The instruction that the decoder reads from a word of the opcode table, numbered as the table numbers its bits. -/
def decodeTableWord (nbits w : Nat) : Option Instr :=
  match decodeBytes (tableBytes nbits w) with
  | .ok i => some i
  | .error _ => none

/-- A descriptor entry from its byte in the `DESCROM` image; the bytes 0x10 to 0xFE do not occur and stand for none (R48). -/
def laneSelOfByte (b : Byte) : Option LaneSel :=
  if b == Config.missSel then some .miss
  else if h : b.toNat < 16 then some (.index ⟨b.toNat, h⟩)
  else none

/-- The byte of a descriptor entry in the `DESCROM` image (R48). -/
def laneSelToByte : LaneSel → Byte
  | .index i => BitVec.ofNat 8 i.val
  | .miss => Config.missSel

end Sys2Proof
end

