-- ==== Sys2Proof/Machine/State.lean ====
section
/-!
DEFINITION. The state: everything `spec/10_state.md` gives the block, as plain data. The datapath values of R13 and the flags
of R16 stand in `Txn`, one transaction's worth, each "not yet written or a value" as R14 asks; the clocked ranks of R19 in
`pipe`; the host's side (the window and length at the ports, the caller's buffer, the acts to come) beside them.
-/

namespace Sys2Proof.Machine

open Sys2Proof

/-- Memory: (address, byte) pairs, addresses strictly rising, no byte equal to 0x00, which is what an unlisted address reads as
(log entry 3). The spaces `WIN` and `HOSTBUF` of R25 are held so, each with its own addresses. -/
abbrev Memory := List Host.Cell

/-- The stage index of R15, "in place of a program counter". -/
inductive Stage where
  /-- between transactions: the index has no value (R131) -/
  | idle
  /-- the ordinal of the stage operation to run -/
  | run (ord : Fin 19)
  /-- the success terminal state `DONE_OK` (R98) -/
  | doneOk
  /-- the failure terminal state `DONE_REJECT` (R98) -/
  | doneReject
deriving DecidableEq, Repr

/-- The causes of rejection (R111), one per gate; on no port and in no register (R113). -/
inductive Cause where
  | len
  | shapeHash
  | shapeConfirm
  | leadingZero
  | digitRange
  | overflow
deriving DecidableEq, Repr

/-- The datapath values and flags of one transaction (R13, R16). `none` is "no value": the producing operation has not run in
this transaction (R14). -/
structure Txn where
  /-- the stage index (R15) -/
  stage : Stage
  /-- the read window `W` as the transaction sampled it (R13, R30) -/
  w : Option Window
  /-- `LEN` as the transaction sampled it (R13, R30) -/
  len : Option Nat
  /-- `CMP`, 16 × u1: written by `CMPSEP` (R13, R61) -/
  cmp : Option (Lanes Bool)
  /-- `RAWBM`, u16: written by `BITMASK` (R13, R62) -/
  rawbm : Option (BitVec 16)
  /-- `BM`, the SeparatorBitmap, u16: written by `LENMASK` (R13, R43, R63) -/
  bm : Option (BitVec 16)
  /-- `PROD`, u29: written by `HASH` (R13, R67) -/
  prod : Option (BitVec 29)
  /-- `HC`, the HashCode, u8: written by `HASH` (R13, R45, R67) -/
  hc : Option Byte
  /-- `PID`, the PatternID, u8: written by `PIDLOOK` (R13, R46, R68) -/
  pid : Option Byte
  /-- `DESC`, 16 × LaneSel: written by `DESCSEL` (R13, R48, R70) -/
  desc : Option Descriptor
  /-- `GL`, the GatheredLanes, 16 × u8: written by `GATHER` (R13, R75) -/
  gl : Option (Lanes Byte)
  /-- `LZMASK`, 16 × u1: written by `LZCHK` (R13, R79) -/
  lzmask : Option (Lanes Bool)
  /-- `CL`, 16 × u8: written by `CANON` (R13, R81) -/
  cl : Option (Lanes Byte)
  /-- `DL`, the DigitLanes, 16 × u8: written by `SUBZERO` (R13, R82) -/
  dl : Option (Lanes Byte)
  /-- `P`, 16 × u16: written by `WMUL` (R13, R86) -/
  p : Option (Lanes (BitVec 16))
  /-- `PS`, 8 × u16: written by `PAIRADD` (R13, R87) -/
  ps : Option (Vector (BitVec 16) 8)
  /-- `S`, the OctetSums, 4 × u16: written by `FOLD` (R13, R88) -/
  s : Option (Vector (BitVec 16) 4)
  /-- `B`, 4 × u8: written by `NARROW` (R13, R93) -/
  b : Option (Vector Byte 4)
  /-- `RES`, the Result, u32: written by `PACK`, or 0 on a rejection (R13, R94, R115) -/
  res : Option (BitVec 32)
  /-- `OK`, u1: written by the terminal state (R13, R94, R115) -/
  ok : Option Bool
  /-- flag `g0` of gate G0: written by `LENCHK` (R16, R60) -/
  g0 : Option Bool
  /-- flag `g1` of gate G1: written by `PIDLOOK` (R16, R68) -/
  g1 : Option Bool
  /-- flag `g2` of gate G2: written by `SHAPECONF` (R16, R69) -/
  g2 : Option Bool
  /-- flag `g3` of gate G3: written by `LZCHK` (R16, R79) -/
  g3 : Option Bool
  /-- flag `g4` of gate G4: written by `DIGCHK` (R16, R83) -/
  g4 : Option Bool
  /-- flag `g5` of gate G5: written by `OVFCHK` (R16, R89) -/
  g5 : Option Bool
deriving DecidableEq, Repr

/-- Between transactions no datapath value exists (R22). -/
def Txn.empty : Txn :=
  ⟨.idle, none, none, none, none, none, none, none, none, none, none, none, none, none, none, none, none, none, none, none, none, none, none, none, none, none⟩

/-- One rank of pipeline registers, for `LAT` > 0 (R19): a valid bit, and the transaction in flight, held as the pair that was
sampled (log entry 9). -/
structure Rank where
  valid : Bool
  w : Window
  len : Nat
deriving DecidableEq, Repr

/-- What the host does at the block's boundary (`spec/46_parse_operation.md` R99, `spec/20_memory.md` R32): the inputs to
come, in order. -/
inductive Request where
  /-- the caller's bytes are in `HOSTBUF` ("written by the caller, outside this spec", R25) -/
  | buffer (bytes : List Byte)
  /-- the host runs `LOAD` (R32) -/
  | load
  /-- the host puts a window and a length on the ports by other means than `LOAD` (R32, R23) -/
  | drive (window : BitVec 128) (length : Nat)
  /-- the host presents what is on the ports: a transaction starts at `stage` = 0, to be run operation by operation (R15) -/
  | present
  /-- the host presents what is on the ports and the block evaluates `PARSE` as one operation (R97) -/
  | parse
  /-- one rising edge of `clk` with these levels of `rst` and `in_valid` (R23, R105, R130) -/
  | cycle (rst inValid : Bool)
deriving DecidableEq, Repr

/-- The names of the datapath values that an operation can read (R13). -/
inductive ValueName where
  | w
  | len
  | cmp
  | rawbm
  | bm
  | hc
  | pid
  | desc
  | gl
  | cl
  | dl
  | p
  | ps
  | s
  | b
deriving DecidableEq, Repr

/-- The faults: the step has no next state. -/
inductive Fault where
  /-- An operation was given a state in which the datapath value it reads has not been written in this transaction. R9:
  "Reading a value that no stage of this transaction has written is not possible"; R14: the value has none, and no default may
  be given to it. Raised by a stage operation's meaning only; safe: no run of the block reaches such a state. -/
  | unwritten (v : ValueName)
deriving DecidableEq, Repr

/-- The refusals: the model does not say what happens. -/
inductive Refusal where
  /-- An instruction without a meaning in this model; raised by no arm of `exec`; safe. -/
  | notModelled (mnemonic : String)
  /-- A fetched code that the decoder rejects as no row of the table; raised by `step` only; safe: no state fetches one. -/
  | undecodable (r : DecodeReject)
deriving DecidableEq, Repr

/-- The state of the machine: the block, its clocked ranks, and the host's side of its ports. -/
structure State where
  /-- the space `WIN`: the 16 bytes on the `window` port, the read window `W` (R23, R25) -/
  win : Memory
  /-- the `length` port: `LEN` (R23) -/
  length : Nat
  /-- the space `HOSTBUF`: the caller's bytes (R25) -/
  hostBuf : Memory
  /-- n, the number of the caller's bytes (R25, R32) -/
  hostLen : Nat
  /-- `LEN_W`, the width of the `length` port: an argument of the machine, changed by nothing (R7) -/
  lenW : Nat
  /-- the host's acts to come, the next first -/
  requests : List Request
  /-- the MODEL's own: at stage 4, read `BM` by the `SHAPE` rows (R57) in place of the four operations of the dispatcher -/
  byDecoder : Bool
  /-- the transaction in progress, or the one that the last step has ended; empty between transactions (R22) -/
  txn : Txn
  /-- the `LAT` ranks of pipeline registers, the newest first; empty for `LAT` = 0 (R19) -/
  pipe : List Rank
  /-- the MODEL's own: how many free values the pipeline's data registers have taken so far (log entry 8) -/
  drawn : Nat
deriving DecidableEq, Repr

/-- The outcome of a step or of a meaning. -/
abbrev Out := Host.Outcome State Fault Refusal

/-- A rank after reset: not valid, its data unspecified (R22). -/
def Rank.unset (k : Nat) : Rank := ⟨false, Config.rankWindow k, Config.rankLength k⟩

/-- The machine right after reset, for a port width and a latency (R22): no transaction, nothing presented, every valid bit 0.
The ports are inputs and have no reset value; they are given zeros (log entry 2). -/
def State.resetWith (lenW lat : Nat) : State where
  win := []
  length := 0
  hostBuf := []
  hostLen := 0
  lenW := lenW
  requests := []
  byDecoder := false
  txn := Txn.empty
  pipe := (List.range lat).map Rank.unset
  drawn := lat

/-- The machine right after reset: `LAT` = 0, the spec's default, and `LEN_W` = 5, the least it allows (R7; log entry 1). -/
def State.reset : State := State.resetWith 5 0

/-! The named updates of the transaction. -/

/-- Set the stage index. -/
def Txn.goto (t : Txn) (st : Stage) : Txn := { t with stage := st }
/-- Write `CMP`. -/
def Txn.setCmp (t : Txn) (v : Lanes Bool) : Txn := { t with cmp := some v }
/-- Write `RAWBM`. -/
def Txn.setRawbm (t : Txn) (v : BitVec 16) : Txn := { t with rawbm := some v }
/-- Write `BM`. -/
def Txn.setBm (t : Txn) (v : BitVec 16) : Txn := { t with bm := some v }
/-- Write `PROD`. -/
def Txn.setProd (t : Txn) (v : BitVec 29) : Txn := { t with prod := some v }
/-- Write `HC`. -/
def Txn.setHc (t : Txn) (v : Byte) : Txn := { t with hc := some v }
/-- Write `PID`. -/
def Txn.setPid (t : Txn) (v : Byte) : Txn := { t with pid := some v }
/-- Write `DESC`. -/
def Txn.setDesc (t : Txn) (v : Descriptor) : Txn := { t with desc := some v }
/-- Write `GL`. -/
def Txn.setGl (t : Txn) (v : Lanes Byte) : Txn := { t with gl := some v }
/-- Write `LZMASK`. -/
def Txn.setLzmask (t : Txn) (v : Lanes Bool) : Txn := { t with lzmask := some v }
/-- Write `CL`. -/
def Txn.setCl (t : Txn) (v : Lanes Byte) : Txn := { t with cl := some v }
/-- Write `DL`. -/
def Txn.setDl (t : Txn) (v : Lanes Byte) : Txn := { t with dl := some v }
/-- Write `P`. -/
def Txn.setP (t : Txn) (v : Lanes (BitVec 16)) : Txn := { t with p := some v }
/-- Write `PS`. -/
def Txn.setPs (t : Txn) (v : Vector (BitVec 16) 8) : Txn := { t with ps := some v }
/-- Write `S`. -/
def Txn.setS (t : Txn) (v : Vector (BitVec 16) 4) : Txn := { t with s := some v }
/-- Write `B`. -/
def Txn.setB (t : Txn) (v : Vector Byte 4) : Txn := { t with b := some v }
/-- Write `RES`. -/
def Txn.setRes (t : Txn) (v : BitVec 32) : Txn := { t with res := some v }
/-- Write `OK`. -/
def Txn.setOk (t : Txn) (v : Bool) : Txn := { t with ok := some v }
/-- Write `g0`. -/
def Txn.setG0 (t : Txn) (v : Bool) : Txn := { t with g0 := some v }
/-- Write `g1`. -/
def Txn.setG1 (t : Txn) (v : Bool) : Txn := { t with g1 := some v }
/-- Write `g2`. -/
def Txn.setG2 (t : Txn) (v : Bool) : Txn := { t with g2 := some v }
/-- Write `g3`. -/
def Txn.setG3 (t : Txn) (v : Bool) : Txn := { t with g3 := some v }
/-- Write `g4`. -/
def Txn.setG4 (t : Txn) (v : Bool) : Txn := { t with g4 := some v }
/-- Write `g5`. -/
def Txn.setG5 (t : Txn) (v : Bool) : Txn := { t with g5 := some v }

/-- Replace the transaction. -/
def State.setTxn (st : State) (t : Txn) : State := { st with txn := t }
/-- Replace the contents of the `window` port. -/
def State.setWin (st : State) (m : Memory) : State := { st with win := m }
/-- Replace the value of the `length` port. -/
def State.setLength (st : State) (n : Nat) : State := { st with length := n }
/-- Replace the caller's buffer. -/
def State.setHost (st : State) (m : Memory) (n : Nat) : State := { st with hostBuf := m, hostLen := n }
/-- Replace the list of the host's acts to come. -/
def State.setRequests (st : State) (r : List Request) : State := { st with requests := r }
/-- Choose how stage 4 reads the bitmap. -/
def State.setByDecoder (st : State) (v : Bool) : State := { st with byDecoder := v }
/-- Replace the ranks and the count of free values taken. -/
def State.setPipe (st : State) (r : List Rank) (k : Nat) : State := { st with pipe := r, drawn := k }

end Sys2Proof.Machine
end

