-- ==== Sys2Proof/Machine/Ops.lean ====
section
/-!
DEFINITION. The named operations over memory and the transaction: reading and writing bytes, reading a datapath value, going
on to the next stage, passing a gate, `raise Reject(cause)` (the block's one exceptional outcome, `spec/60_exceptions.md`
R115), and the start of the next transaction, which is all that follows a rejection (R117: there is no return from it).
-/

namespace Sys2Proof.Machine

open Sys2Proof

/-! ## Memory -/

/-- The byte at address `a`; an unlisted address reads 0x00 (log entry 3). -/
def Memory.read : Memory → Nat → Byte
  | [], _ => 0x00
  | c :: cs, a => if c.1 = a then c.2 else Memory.read cs a

/-- Write byte `b` at address `a`, keeping the canonical form: 0x00 removes the entry. -/
def Memory.write : Memory → Nat → Byte → Memory
  | [], a, b => if b = 0x00 then [] else [(a, b)]
  | c :: cs, a, b =>
    if a < c.1 then (if b = 0x00 then c :: cs else (a, b) :: c :: cs)
    else if a = c.1 then (if b = 0x00 then cs else (a, b) :: cs)
    else c :: Memory.write cs a b

/-- Every address is below `bound`, addresses rise strictly from above `low`, and no byte is 0x00. -/
def Memory.wfFrom (bound : Nat) : Nat → Memory → Bool
  | _, [] => true
  | low, c :: cs => decide (low ≤ c.1) && decide (c.1 < bound) && !(c.2 == 0x00) && Memory.wfFrom bound (c.1 + 1) cs

/-- The canonical form of a space of `bound` entries (R25). -/
def Memory.wf (bound : Nat) (m : Memory) : Bool := Memory.wfFrom bound 0 m

/-- Write a sequence of bytes at consecutive addresses from `a`. -/
def Memory.writeFrom : Memory → Nat → List Byte → Memory
  | m, _, [] => m
  | m, a, b :: bs => Memory.writeFrom (Memory.write m a b) (a + 1) bs

/-- A buffer that holds a sequence of bytes from address 0 (R25, R26: byte i is character i of the text). -/
def Memory.ofBytes (bytes : List Byte) : Memory := Memory.writeFrom [] 0 bytes

/-- The 16 bytes of `WIN` as lanes: `WIN[i]` is lane i of `W` (R26). -/
def Memory.lanes (m : Memory) : Window := Vector.ofFn fun i => Memory.read m i.val

/-! ## Reading a datapath value -/

/-- Read a datapath value, or stop: "no operation reads a value that has none" (R9, R14). -/
def need {α : Type} (v : Option α) (name : ValueName) (k : α → Out) : Out :=
  match v with
  | some x => k x
  | none => .fault (.unwritten name)

/-! ## Going on -/

/-- The end of an operation that is no gate: `stage <- o` (R15). -/
def State.advance (st : State) (t : Txn) (o : Fin 19) : Out := .next (st.setTxn (t.goto (.run o)))

/-- Write the flag of the gate whose failure has the cause `c` (R16, R111). -/
def Txn.setGate (t : Txn) (c : Cause) (v : Bool) : Txn :=
  match c with
  | .len => t.setG0 v
  | .shapeHash => t.setG1 v
  | .shapeConfirm => t.setG2 v
  | .leadingZero => t.setG3 v
  | .digitRange => t.setG4 v
  | .overflow => t.setG5 v

/-- The failing gate's flag becomes 0 and the transaction ends: `OK` <- 0, `RES` <- 0, `stage` <- `DONE_REJECT` (R115). -/
def Txn.reject (t : Txn) (c : Cause) : Txn :=
  (((t.setGate c false).setOk false).setRes 0).goto .doneReject

/-- `raise Reject(cause)` (R9, R115): the transaction ends at once; no later operation runs; nothing else changes, and the
cause is recorded nowhere but in the identity of the gate whose flag is 0 (R113). -/
def State.raiseReject (st : State) (t : Txn) (c : Cause) : Out := .next (st.setTxn (t.reject c))

/-- A gate: it passes, its flag becoming 1, and the chain goes on at `o`; or it rejects (R15, R16). -/
def State.gate (st : State) (t : Txn) (c : Cause) (pass : Bool) (o : Fin 19) : Out :=
  if pass then st.advance (t.setGate c true) o else st.raiseReject t c

/-! ## Between transactions, and the start of one -/

/-- What a transaction that has ended leaves behind: nothing. Between transactions no datapath value and no flag exists and the
stage index has no value (R10, R22, R131); the cause of a rejection is lost with them (R113). Every step that starts between
transactions starts so (log entry 13). -/
def State.retire (st : State) : State := st.setTxn Txn.empty

/-- A transaction that has just been presented: `W` and `LEN` sampled together, nothing else written, `stage` = 0 (R14, R15,
R30, R131). -/
def Txn.fresh (w : Window) (len : Nat) : Txn :=
  { Txn.empty with stage := .run 0, w := some w, len := some len }

/-- The host presents what is on the ports (R15, R30). After a rejection, too, this is what comes next: there is no return and
no retry (R117). -/
def State.present (st : State) : State := st.setTxn (Txn.fresh (Memory.lanes st.win) st.length)

end Sys2Proof.Machine
end

