-- ==== Sys2Proof/Machine/Operands.lean ====
section
/-!
DEFINITION. How operands are formed and read (`spec/30_encoding.md`): the bytes of the `window` bus, the geometry of a shape
(R44), the numbering of the patterns (R46), the roles of the lanes (R49), the descriptor of a shape (R50), a lane's source byte
(R75), the weights (R53), and the bits of a lane vector (R62).
-/

namespace Sys2Proof.Machine

open Sys2Proof

/-! ## The window bus -/

/-- The lanes of the 128-bit port: `W[i]` = `window[8i+7:8i]` (R23, R42). -/
def busLanes (bus : BitVec 128) : Window := Vector.ofFn fun i => bus.extractLsb' (8 * i.val) 8

/-! ## Shapes -/

/-- l_g, the length of group g (R44). -/
def shapeLen (sh : Shape) (g : Fin 4) : Nat :=
  match g with
  | 0 => sh.l0
  | 1 => sh.l1
  | 2 => sh.l2
  | 3 => sh.l3

/-- s_g, the character at which group g starts: s_0 = 0, s_(g+1) = s_g + l_g + 1 (R44). -/
def shapeStart (sh : Shape) (g : Fin 4) : Nat :=
  match g with
  | 0 => 0
  | 1 => sh.l0 + 1
  | 2 => sh.l0 + 1 + sh.l1 + 1
  | 3 => sh.l0 + 1 + sh.l1 + 1 + sh.l2 + 1

/-- L, the length of a text of this shape: l0 + l1 + l2 + l3 + 3 (R44). -/
def shapeTotal (sh : Shape) : Nat := sh.l0 + sh.l1 + sh.l2 + sh.l3 + 3

/-- The valid bitmap of a shape: its three separator positions and its guard bit (R44). -/
def shapeBitmap (sh : Shape) : BitVec 16 :=
  BitVec.ofNat 16
    (2 ^ (shapeStart sh 0 + shapeLen sh 0) + 2 ^ (shapeStart sh 1 + shapeLen sh 1) +
      2 ^ (shapeStart sh 2 + shapeLen sh 2) + 2 ^ shapeTotal sh)

/-- The PatternID of a shape: 27 (l0 - 1) + 9 (l1 - 1) + 3 (l2 - 1) + (l3 - 1) (R46). -/
def shapePid (sh : Shape) : Nat := 27 * (sh.l0 - 1) + 9 * (sh.l1 - 1) + 3 * (sh.l2 - 1) + (sh.l3 - 1)

/-- The shape of a PatternID (R46). -/
def pidShape (pid : Nat) : Shape := ⟨pid / 27 + 1, pid / 9 % 3 + 1, pid / 3 % 3 + 1, pid % 3 + 1⟩

/-! ## Lane roles -/

/-- The role of a lane: lanes 0 to 7 hold ones and tens by turns, lanes 8 to 15 hundreds and spares (R49). -/
def laneRole (i : Fin 16) : Role :=
  if i.val < 8 then (if i.val % 2 = 0 then .ones else .tens)
  else (if i.val % 2 = 0 then .hundreds else .spare)

/-- The group of a lane (R49). -/
def laneGroup (i : Fin 16) : Fin 4 := ⟨i.val % 8 / 2, by omega⟩

/-- ones(g) = 2g (R49). -/
def onesLane (g : Fin 4) : Fin 16 := ⟨2 * g.val, by omega⟩
/-- tens(g) = 2g + 1 (R49). -/
def tensLane (g : Fin 4) : Fin 16 := ⟨2 * g.val + 1, by omega⟩
/-- hundreds(g) = 8 + 2g (R49). -/
def hundredsLane (g : Fin 4) : Fin 16 := ⟨8 + 2 * g.val, by omega⟩
/-- spare(g) = 9 + 2g (R49). -/
def spareLane (g : Fin 4) : Fin 16 := ⟨9 + 2 * g.val, by omega⟩

/-- `WEIGHT`: 1, 10, 100 and 0 for the ones, tens, hundreds and spare lanes, fixed by position (R53). -/
def laneWeight (i : Fin 16) : Nat :=
  match laneRole i with
  | .ones => 1
  | .tens => 10
  | .hundreds => 100
  | .spare => 0

/-! ## Descriptors -/

/-- A source index; every index of a legal shape is below 16 (R50). -/
def selAt (k : Nat) : LaneSel := if h : k < 16 then .index ⟨k, h⟩ else .miss

/-- The descriptor of a shape (R50). -/
def shapeDescriptor (sh : Shape) : Descriptor :=
  Vector.ofFn fun i =>
    let g := laneGroup i
    match laneRole i with
    | .ones => selAt (shapeStart sh g + shapeLen sh g - 1)
    | .tens => if shapeLen sh g ≥ 2 then selAt (shapeStart sh g + shapeLen sh g - 2) else .miss
    | .hundreds => if shapeLen sh g = 3 then selAt (shapeStart sh g) else .miss
    | .spare => .miss

/-- The byte a lane takes: `W[k]` for a source index k, the placeholder 0x00 for "miss"; never a read outside the window
(R38, R75, R77). -/
def laneByte (w : Window) (sel : LaneSel) : Byte :=
  match sel with
  | .index k => w[k]
  | .miss => Config.missByte

/-- The lanes under the leading-zero check: in each group the hundreds lane if it is not miss, else the tens lane if it is not
miss, else none (R79). -/
def leadingLanes (desc : Descriptor) : Lanes Bool :=
  Vector.ofFn fun i =>
    match laneRole i with
    | .hundreds => desc[i] != .miss
    | .tens => desc[hundredsLane (laneGroup i)] == .miss && desc[i] != .miss
    | .ones => false
    | .spare => false

/-! ## Bits -/

/-- The number whose bit i is the i-th boolean, the first having weight 1 (R26, R62). -/
def bitsValue : List Bool → Nat
  | [] => 0
  | x :: xs => (if x then 1 else 0) + 2 * bitsValue xs

end Sys2Proof.Machine
end

