-- ==== Sys2Proof/Machine/Tables.lean ====
section
/-!
DEFINITION. The constant tables (`spec/10_state.md` R11), "read-only for the process lifetime": `PIDROM` as the spec prints it
(`spec/30_encoding.md` R47), `XBMROM` (R52) and `DESCROM` (R50, R51) by the construction the spec gives for them. They are
definitions, not state: a block with other tables cannot be written down here (`spec/93_implementation_defined.md` U1).
-/

namespace Sys2Proof.Machine

open Sys2Proof

/-- `PIDROM[0x00]` to `PIDROM[0x0F]` (R47). -/
def pidromRow0 : List Byte :=
  [38, 65, 0xFF, 56, 73, 0xFF, 0xFF, 0xFF, 0xFF, 0xFF, 0xFF, 3, 0xFF, 0xFF, 6, 0xFF]
/-- `PIDROM[0x10]` to `PIDROM[0x1F]` (R47). -/
def pidromRow1 : List Byte :=
  [0xFF, 9, 0xFF, 27, 0xFF, 12, 30, 0xFF, 0xFF, 0xFF, 0xFF, 15, 0xFF, 33, 0xFF, 0xFF]
/-- `PIDROM[0x20]` to `PIDROM[0x2F]` (R47). -/
def pidromRow2 : List Byte :=
  [0xFF, 0xFF, 18, 36, 0xFF, 0xFF, 0xFF, 54, 21, 0xFF, 39, 0xFF, 0xFF, 57, 0xFF, 0xFF]
/-- `PIDROM[0x30]` to `PIDROM[0x3F]` (R47). -/
def pidromRow3 : List Byte :=
  [0xFF, 0xFF, 0xFF, 0xFF, 0xFF, 0xFF, 24, 42, 0xFF, 0xFF, 0xFF, 60, 0xFF, 0xFF, 0xFF, 0xFF]
/-- `PIDROM[0x40]` to `PIDROM[0x4F]` (R47). -/
def pidromRow4 : List Byte :=
  [0xFF, 0xFF, 0xFF, 0xFF, 45, 0xFF, 0xFF, 63, 0xFF, 0xFF, 0xFF, 0xFF, 0xFF, 0xFF, 0xFF, 0xFF]
/-- `PIDROM[0x50]` to `PIDROM[0x5F]` (R47). -/
def pidromRow5 : List Byte :=
  [0xFF, 48, 53, 0xFF, 0xFF, 66, 71, 0xFF, 0xFF, 16, 0xFF, 34, 0xFF, 0xFF, 0xFF, 0xFF]
/-- `PIDROM[0x60]` to `PIDROM[0x6F]` (R47). -/
def pidromRow6 : List Byte :=
  [0xFF, 0xFF, 0xFF, 52, 0xFF, 0xFF, 22, 70, 40, 0xFF, 0xFF, 58, 51, 0xFF, 0xFF, 69]
/-- `PIDROM[0x70]` to `PIDROM[0x7F]` (R47). -/
def pidromRow7 : List Byte :=
  [0xFF, 0xFF, 0xFF, 0xFF, 0xFF, 0xFF, 0xFF, 0xFF, 0xFF, 5, 0xFF, 0xFF, 0xFF, 0xFF, 0xFF, 0xFF]
/-- `PIDROM[0x80]` to `PIDROM[0x8F]` (R47). -/
def pidromRow8 : List Byte :=
  [11, 29, 46, 0xFF, 0xFF, 64, 0xFF, 0xFF, 72, 0, 77, 0xFF, 0xFF, 0xFF, 0xFF, 0xFF]
/-- `PIDROM[0x90]` to `PIDROM[0x9F]` (R47). -/
def pidromRow9 : List Byte :=
  [0xFF, 0xFF, 0xFF, 0xFF, 0xFF, 0xFF, 0xFF, 0xFF, 0xFF, 0xFF, 0xFF, 76, 0xFF, 0xFF, 0xFF, 0xFF]
/-- `PIDROM[0xA0]` to `PIDROM[0xAF]` (R47). -/
def pidromRowA : List Byte :=
  [0xFF, 0xFF, 0xFF, 75, 0xFF, 80, 0xFF, 0xFF, 0xFF, 26, 0xFF, 44, 0xFF, 7, 62, 0xFF]
/-- `PIDROM[0xB0]` to `PIDROM[0xBF]` (R47). -/
def pidromRowB : List Byte :=
  [0xFF, 25, 0xFF, 43, 13, 31, 61, 0xFF, 0xFF, 0xFF, 0xFF, 0xFF, 0xFF, 0xFF, 0xFF, 0xFF]
/-- `PIDROM[0xC0]` to `PIDROM[0xCF]` (R47). -/
def pidromRowC : List Byte :=
  [2, 19, 37, 0xFF, 0xFF, 50, 55, 79, 68, 0xFF, 0xFF, 0xFF, 0xFF, 49, 0xFF, 0xFF]
/-- `PIDROM[0xD0]` to `PIDROM[0xDF]` (R47). -/
def pidromRowD : List Byte :=
  [67, 0xFF, 0xFF, 0xFF, 0xFF, 17, 0xFF, 35, 78, 0xFF, 4, 0xFF, 0xFF, 0xFF, 0xFF, 0xFF]
/-- `PIDROM[0xE0]` to `PIDROM[0xEF]` (R47). -/
def pidromRowE : List Byte :=
  [0xFF, 10, 23, 28, 41, 0xFF, 0xFF, 59, 0xFF, 0xFF, 0xFF, 8, 0xFF, 0xFF, 0xFF, 0xFF]
/-- `PIDROM[0xF0]` to `PIDROM[0xFF]` (R47). -/
def pidromRowF : List Byte :=
  [0xFF, 1, 14, 32, 0xFF, 0xFF, 0xFF, 0xFF, 0xFF, 0xFF, 0xFF, 0xFF, 74, 0xFF, 47, 20]

/-- The 256 entries of `PIDROM`, from entry 0; 0xFF is the sentinel (R47). -/
def pidromImage : List Byte :=
  pidromRow0 ++ pidromRow1 ++ pidromRow2 ++ pidromRow3 ++ pidromRow4 ++ pidromRow5 ++ pidromRow6 ++ pidromRow7 ++
  pidromRow8 ++ pidromRow9 ++ pidromRowA ++ pidromRowB ++ pidromRowC ++ pidromRowD ++ pidromRowE ++ pidromRowF

/-- `PIDROM[h]`: a total function of the HashCode (R12, R47). -/
def pidrom (h : Byte) : Byte := pidromImage.getD h.toNat Config.sentinel

/-- The hash product `PROD` = 6639 × `BM`, exact in 29 bits (R45, R67). -/
def hashProduct (bm : BitVec 16) : BitVec 29 := BitVec.ofNat 29 (Config.hashMul * bm.toNat)

/-- The HashCode `HC` = `PROD[20:13]` (R45, R67). -/
def hashCode (prod : BitVec 29) : Byte := prod.extractLsb' Config.hashShift 8

/-- A PatternID that has a descriptor: the test of gate G1, below 81 (R46, R68). -/
def pidLive (pid : Byte) : Bool := decide (pid.toNat < Config.nPat)

/-- `XBMROM[p]`, the valid bitmap of the shape with PatternID p (R52); a free value where the table has no entry (R104). -/
def xbmrom (pid : Byte) : BitVec 16 :=
  if pidLive pid then shapeBitmap (pidShape pid.toNat) else Config.xbmBeyond pid

/-- The 16 entries of `DESCROM[p]` (R50, R51); a free value where no descriptor exists (R70, R104). -/
def descrom (pid : Byte) : Descriptor :=
  if pidLive pid then shapeDescriptor (pidShape pid.toNat) else Config.descBeyond pid

end Sys2Proof.Machine
end

