-- ==== Sys2Proof/Machine/Flags.lean ====
section
/-!
DEFINITION. The six gate flags (`spec/10_state.md` R16), each as the condition under which its gate passes, and `OK`, which is
formed from them. Every comparison is unsigned (R8).
-/

namespace Sys2Proof.Machine

open Sys2Proof

/-- G0: `LEN` ≤ 15 (R60). -/
def lengthOk (len : Nat) : Bool := decide (len ≤ Config.maxLen)

/-- G1: `PID` < 81 (R68). -/
def hashOk (pid : Byte) : Bool := pidLive pid

/-- G2: `BM` = `XBMROM[PID]` (R69). -/
def shapeOk (bm : BitVec 16) (pid : Byte) : Bool := bm == xbmrom pid

/-- G3: no lane under the leading-zero check holds `ZERO` (R79). -/
def leadingOk (gl : Lanes Byte) (mask : Lanes Bool) : Bool :=
  decide (∀ i : Fin 16, ¬(mask[i] = true ∧ gl[i] = Config.zero))

/-- G4: every lane of `DL` is at most 9, compared as unsigned bytes (R83). -/
def digitsOk (dl : Lanes Byte) : Bool := decide (∀ i : Fin 16, dl[i].toNat ≤ Config.digitMax)

/-- G5: every sum is at most 255, compared as unsigned 16-bit values (R89). -/
def sumsOk (s : Vector (BitVec 16) 4) : Bool := decide (∀ g : Fin 4, s[g].toNat ≤ Config.octetMax)

/-- `OK` = `g0` and `g1` and … and `g5`; "a gate after a failed gate is not evaluated and counts as not passed" (R16). -/
def Txn.okOfFlags (t : Txn) : Bool :=
  t.g0 == some true && t.g1 == some true && t.g2 == some true && t.g3 == some true && t.g4 == some true && t.g5 == some true

/-- The cause of a rejection: the gate whose flag is 0 (R111, R113, R114). A view for statements; no port shows it. -/
def Txn.cause (t : Txn) : Option Cause :=
  if t.g0 = some false then some .len
  else if t.g1 = some false then some .shapeHash
  else if t.g2 = some false then some .shapeConfirm
  else if t.g3 = some false then some .leadingZero
  else if t.g4 = some false then some .digitRange
  else if t.g5 = some false then some .overflow
  else none

/-- What the transaction has produced, in R116's words: the values its operations wrote, but not what a failing gate formed before
its test: the `PID` that `PIDLOOK` read when G1 failed (R68), the `LZMASK` of `LZCHK` when G3 failed (R79). A view for statements
(log entry 14). -/
def Txn.produced (t : Txn) : Txn :=
  { t with
    pid := if t.g1 = some false then none else t.pid
    lzmask := if t.g3 = some false then none else t.lzmask }

/-- The numeric code of a cause (R111). -/
def Cause.code : Cause → Nat
  | .len => 0
  | .shapeHash => 1
  | .shapeConfirm => 2
  | .leadingZero => 3
  | .digitRange => 4
  | .overflow => 5

end Sys2Proof.Machine
end

