-- ==== Sys2Proof/Machine/DigitValidator.lean ====
section
/-!
DEFINITION. The digit validators (`spec/43_digit_validator.md`): `LZCHK`, `CANON`, `SUBZERO`, `DIGCHK`.
-/

namespace Sys2Proof.Machine

open Sys2Proof

/-- R81: "0" in every miss lane, chosen by the descriptor and not by the byte; every other lane as gathered. -/
def canonValue (gl : Lanes Byte) (desc : Descriptor) : Lanes Byte :=
  Vector.ofFn fun i => if desc[i] = .miss then Config.zero else gl[i]

/-- R82: minus "0" in every lane, modulo 256. -/
def subzeroValue (cl : Lanes Byte) : Lanes Byte := Vector.ofFn fun i => cl[i] - Config.zero

/-- `LZCHK` (R79): writes `LZMASK`, then gate G3 on the raw gathered bytes. -/
def execLzchk (st : State) : Out :=
  need st.txn.gl .gl fun gl =>
    need st.txn.desc .desc fun desc =>
      st.gate (st.txn.setLzmask (leadingLanes desc)) .leadingZero (leadingOk gl (leadingLanes desc)) 10

/-- `CANON` (R81). -/
def execCanon (st : State) : Out :=
  need st.txn.gl .gl fun gl =>
    need st.txn.desc .desc fun desc => st.advance (st.txn.setCl (canonValue gl desc)) 11

/-- `SUBZERO` (R82). -/
def execSubzero (st : State) : Out :=
  need st.txn.cl .cl fun cl => st.advance (st.txn.setDl (subzeroValue cl)) 12

/-- `DIGCHK` (R83): gate G4. -/
def execDigchk (st : State) : Out :=
  need st.txn.dl .dl fun dl => st.gate st.txn .digitRange (digitsOk dl) 13

end Sys2Proof.Machine
end

