-- ==== Sys2Proof/Machine/HashDispatcher.lean ====
section
/-!
DEFINITION. The perfect-hash pattern dispatcher (`spec/41_hash_dispatcher.md`): `HASH`, `PIDLOOK`, `SHAPECONF`, `DESCSEL`.
-/

namespace Sys2Proof.Machine

open Sys2Proof

/-- `HASH` (R67): writes `PROD` and `HC`. -/
def execHash (st : State) : Out :=
  need st.txn.bm .bm fun bm =>
    st.advance ((st.txn.setProd (hashProduct bm)).setHc (hashCode (hashProduct bm))) 5

/-- `PIDLOOK` (R68): writes `PID`, then gate G1. -/
def execPidlook (st : State) : Out :=
  need st.txn.hc .hc fun hc => st.gate (st.txn.setPid (pidrom hc)) .shapeHash (hashOk (pidrom hc)) 6

/-- `SHAPECONF` (R69): gate G2. -/
def execShapeconf (st : State) : Out :=
  need st.txn.bm .bm fun bm =>
    need st.txn.pid .pid fun pid => st.gate st.txn .shapeConfirm (shapeOk bm pid) 7

/-- `DESCSEL` (R70). -/
def execDescsel (st : State) : Out :=
  need st.txn.pid .pid fun pid => st.advance (st.txn.setDesc (descrom pid)) 8

end Sys2Proof.Machine
end

