-- ==== Sys2Proof/Machine/LaneGatherer.lean ====
section
/-!
DEFINITION. The lane gatherer (`spec/42_lane_gatherer.md`): `GATHER`.
-/

namespace Sys2Proof.Machine

open Sys2Proof

/-- R75: each lane takes its source byte, or the placeholder. -/
def gatherValue (w : Window) (desc : Descriptor) : Lanes Byte := Vector.ofFn fun i => laneByte w desc[i]

/-- `GATHER` (R75). -/
def execGather (st : State) : Out :=
  need st.txn.w .w fun w =>
    need st.txn.desc .desc fun desc => st.advance (st.txn.setGl (gatherValue w desc)) 9

end Sys2Proof.Machine
end

