-- ==== Sys2Proof/Machine/OctetPacker.lean ====
section
/-!
DEFINITION. The octet packer (`spec/45_octet_packer.md`): `NARROW`, `PACK`.
-/

namespace Sys2Proof.Machine

open Sys2Proof

/-- R93: unsigned saturation to 8 bits. -/
def narrowValue (s : Vector (BitVec 16) 4) : Vector Byte 4 :=
  Vector.ofFn fun g => if s[g].toNat > Config.octetMax then 0xFF else s[g].setWidth 8

/-- R94: `B[3]` ++ `B[2]` ++ `B[1]` ++ `B[0]`, group 0 in the least-significant byte. -/
def packValue (b : Vector Byte 4) : BitVec 32 := b[3] ++ b[2] ++ b[1] ++ b[0]

/-- `NARROW` (R93). -/
def execNarrow (st : State) : Out :=
  need st.txn.s .s fun s => st.advance (st.txn.setB (narrowValue s)) 18

/-- `PACK` (R94): writes `RES` and `OK` and ends the transaction in the success terminal state (R98). -/
def execPack (st : State) : Out :=
  need st.txn.b .b fun b => .next (st.setTxn (((st.txn.setRes (packValue b)).setOk true).goto .doneOk))

end Sys2Proof.Machine
end

