-- ==== Sys2Proof/Machine/SeparatorLocator.lean ====
section
/-!
DEFINITION. The separator locator (`spec/40_separator_locator.md`): `LENCHK`, `CMPSEP`, `BITMASK`, `LENMASK`.
-/

namespace Sys2Proof.Machine

open Sys2Proof

/-- R61: `CMP[i]` = 1 if `W[i]` = `SEP`, all 8 bits compared, all 16 lanes. -/
def cmpsepValue (w : Window) : Lanes Bool := Vector.ofFn fun i => w[i] == Config.sep

/-- R62: lane i at bit i. -/
def bitmaskValue (cmp : Lanes Bool) : BitVec 16 := BitVec.ofNat 16 (bitsValue cmp.toList)

/-- R63: clear the bits at or above `LEN`, then set bit `LEN`. Above 15 the result is a free value (log entry 6). -/
def lenmaskValue (rawbm : BitVec 16) (len : Nat) : BitVec 16 :=
  if len ≤ Config.maxLen then (rawbm &&& BitVec.ofNat 16 (2 ^ len - 1)) ||| BitVec.ofNat 16 (2 ^ len)
  else Config.lenmaskBeyond rawbm len

/-- `LENCHK` (R60). -/
def execLenchk (st : State) : Out :=
  need st.txn.len .len fun len => st.gate st.txn .len (lengthOk len) 1

/-- `CMPSEP` (R61). -/
def execCmpsep (st : State) : Out :=
  need st.txn.w .w fun w => st.advance (st.txn.setCmp (cmpsepValue w)) 2

/-- `BITMASK` (R62). -/
def execBitmask (st : State) : Out :=
  need st.txn.cmp .cmp fun cmp => st.advance (st.txn.setRawbm (bitmaskValue cmp)) 3

/-- `LENMASK` (R63). -/
def execLenmask (st : State) : Out :=
  need st.txn.rawbm .rawbm fun rawbm =>
    need st.txn.len .len fun len => st.advance (st.txn.setBm (lenmaskValue rawbm len)) 4

end Sys2Proof.Machine
end

