-- ==== Sys2Proof/Machine/WeightedAccumulator.lean ====
section
/-!
DEFINITION. The radix-weighted accumulator and the overflow validator (`spec/44_weighted_accumulator.md`): `WMUL`, `PAIRADD`,
`FOLD`, `OVFCHK`.
-/

namespace Sys2Proof.Machine

open Sys2Proof

/-- R86: `P[i]` = `DL[i]` × `WEIGHT[i]`, unsigned, widened to 16 bits. -/
def wmulValue (dl : Lanes Byte) : Lanes (BitVec 16) :=
  Vector.ofFn fun i => BitVec.ofNat 16 (dl[i].toNat * laneWeight i)

/-- R87: `PS[j]` = `P[2j]` + `P[2j+1]`, in 16 bits. -/
def pairaddValue (p : Lanes (BitVec 16)) : Vector (BitVec 16) 8 :=
  Vector.ofFn fun j => p[2 * j.val] + p[2 * j.val + 1]

/-- R88: `S[g]` = `PS[g]` + `PS[g+4]`, in 16 bits. -/
def foldValue (ps : Vector (BitVec 16) 8) : Vector (BitVec 16) 4 :=
  Vector.ofFn fun g => ps[g.val] + ps[g.val + 4]

/-- `WMUL` (R86). -/
def execWmul (st : State) : Out :=
  need st.txn.dl .dl fun dl => st.advance (st.txn.setP (wmulValue dl)) 14

/-- `PAIRADD` (R87). -/
def execPairadd (st : State) : Out :=
  need st.txn.p .p fun p => st.advance (st.txn.setPs (pairaddValue p)) 15

/-- `FOLD` (R88). -/
def execFold (st : State) : Out :=
  need st.txn.ps .ps fun ps => st.advance (st.txn.setS (foldValue ps)) 16

/-- `OVFCHK` (R89): gate G5. -/
def execOvfchk (st : State) : Out :=
  need st.txn.s .s fun s => st.gate st.txn .overflow (sumsOk s) 17

end Sys2Proof.Machine
end

