-- ==== Sys2Proof/Machine/Composite.lean ====
section
/-!
DEFINITION. The two composed operations: `PARSE`, the whole chain (`spec/46_parse_operation.md` R97), and `LOAD`, the host's
loader (`spec/20_memory.md` R32). Beside them `parseOutcome`, the chain as a function of the window and the length, with its
values threaded as function results (R14, R102) and the cause of a rejection in its failure value (R111).
-/

namespace Sys2Proof.Machine

open Sys2Proof

/-! ## `PARSE` -/

/-- The stage operations in the order of their ordinals (R56, R97). -/
def chainOps : List (State → Out) :=
  [execLenchk, execCmpsep, execBitmask, execLenmask, execHash, execPidlook, execShapeconf, execDescsel, execGather, execLzchk,
    execCanon, execSubzero, execDigchk, execWmul, execPairadd, execFold, execOvfchk, execNarrow, execPack]

/-- Run operations in order, each at most once, and stop at the first gate that fails (R97). -/
def runOps : List (State → Out) → State → Out
  | [], st => .next st
  | op :: ops, st =>
    match op st with
    | .next st' => if st'.txn.stage = .doneReject then .next st' else runOps ops st'
    | .fault f => .fault f
    | .refused r => .refused r

/-- `PARSE` (R97): the presented window and length through the whole chain, to one of the two terminal states (R98). -/
def execParse (st : State) : Out := runOps chainOps st.present

/-- `PARSE` as a pure function (R97, R102): the result, or the cause of the rejection (R111). -/
def parseOutcome (w : Window) (len : Nat) : Except Cause (BitVec 32) :=
  if lengthOk len then
    let bm := lenmaskValue (bitmaskValue (cmpsepValue w)) len
    let pid := pidrom (hashCode (hashProduct bm))
    if hashOk pid then
      if shapeOk bm pid then
        let desc := descrom pid
        let gl := gatherValue w desc
        if leadingOk gl (leadingLanes desc) then
          let dl := subzeroValue (canonValue gl desc)
          if digitsOk dl then
            let s := foldValue (pairaddValue (wmulValue dl))
            if sumsOk s then .ok (packValue (narrowValue s)) else .error .overflow
          else .error .digitRange
        else .error .leadingZero
      else .error .shapeConfirm
    else .error .shapeHash
  else .error .len

/-- What the caller sees of an outcome: a present value or absent, the cause erased (R2, R110, R111). -/
def outcomeValue (r : Except Cause (BitVec 32)) : Option (BitVec 32) :=
  match r with
  | .ok v => some v
  | .error _ => none

/-! ## `LOAD` -/

/-- The byte that `LOAD` puts in `WIN[i]`: `HOSTBUF[i]` for i < n and i < 15, else 0x00 (R32). -/
def loadByte (buf : Memory) (n i : Nat) : Byte := if i < n ∧ i < 15 then Memory.read buf i else 0x00

/-- The 16 bytes that `LOAD` writes (R32). -/
def loadBytes (buf : Memory) (n : Nat) : List Byte := (List.range 16).map (loadByte buf n)

/-- `LEN` <- min(n, 2^LEN_W - 1) (R32). -/
def loadLength (lenW n : Nat) : Nat := min n (2 ^ lenW - 1)

/-- `LOAD` (R32): fills the 16 entries of `WIN` and sets `LEN` at the ports. -/
def execLoad (st : State) : Out :=
  .next ((st.setWin (Memory.writeFrom st.win 0 (loadBytes st.hostBuf st.hostLen))).setLength (loadLength st.lenW st.hostLen))

end Sys2Proof.Machine
end

