-- ==== Sys2Proof/Machine/Shapes.lean ====
section
/-!
DEFINITION. The 81 legal bitmaps as instructions (`spec/30_encoding.md` R50, R55, R57): a bitmap equal to a `SHAPE` row's
`match` selects that row's descriptor, with the row's hash code and PatternID; any other bitmap is rejected. One shared
operation, one definition a row.
-/

namespace Sys2Proof.Machine

open Sys2Proof

/-- What the dispatcher leaves when the bitmap is the valid one of `sh`: the row's hash product and code (R45), its PatternID
(R46), both shape gates passed (R68, R69), its descriptor (R50, R70), and `stage` = 8. -/
def State.selectShape (st : State) (sh : Shape) : Out :=
  let prod := hashProduct (shapeBitmap sh)
  let t := ((st.txn.setProd prod).setHc (hashCode prod)).setPid (BitVec.ofNat 8 (shapePid sh))
  st.advance (((t.setG1 true).setG2 true).setDesc (shapeDescriptor sh)) 8

/-- What the dispatcher leaves for a bitmap that is no `SHAPE` row (R55): a rejection, by G1 when the bitmap's hash code has the
sentinel, by G2 when the bitmap is an alias. -/
def State.rejectBitmap (st : State) (bm : BitVec 16) : Out :=
  let prod := hashProduct bm
  let pid := pidrom (hashCode prod)
  let t := ((st.txn.setProd prod).setHc (hashCode prod)).setPid pid
  if hashOk pid then st.raiseReject (t.setG1 true) .shapeConfirm else st.raiseReject t .shapeHash

/-- `SHAPE_1111` (R50, R57): bitmap 0x00AA, PatternID 0. -/
def execShape1111 (st : State) : Out := st.selectShape ⟨1, 1, 1, 1⟩
/-- `SHAPE_1112` (R50, R57): bitmap 0x012A, PatternID 1. -/
def execShape1112 (st : State) : Out := st.selectShape ⟨1, 1, 1, 2⟩
/-- `SHAPE_1113` (R50, R57): bitmap 0x022A, PatternID 2. -/
def execShape1113 (st : State) : Out := st.selectShape ⟨1, 1, 1, 3⟩
/-- `SHAPE_1121` (R50, R57): bitmap 0x014A, PatternID 3. -/
def execShape1121 (st : State) : Out := st.selectShape ⟨1, 1, 2, 1⟩
/-- `SHAPE_1122` (R50, R57): bitmap 0x024A, PatternID 4. -/
def execShape1122 (st : State) : Out := st.selectShape ⟨1, 1, 2, 2⟩
/-- `SHAPE_1123` (R50, R57): bitmap 0x044A, PatternID 5. -/
def execShape1123 (st : State) : Out := st.selectShape ⟨1, 1, 2, 3⟩
/-- `SHAPE_1131` (R50, R57): bitmap 0x028A, PatternID 6. -/
def execShape1131 (st : State) : Out := st.selectShape ⟨1, 1, 3, 1⟩
/-- `SHAPE_1132` (R50, R57): bitmap 0x048A, PatternID 7. -/
def execShape1132 (st : State) : Out := st.selectShape ⟨1, 1, 3, 2⟩
/-- `SHAPE_1133` (R50, R57): bitmap 0x088A, PatternID 8. -/
def execShape1133 (st : State) : Out := st.selectShape ⟨1, 1, 3, 3⟩
/-- `SHAPE_1211` (R50, R57): bitmap 0x0152, PatternID 9. -/
def execShape1211 (st : State) : Out := st.selectShape ⟨1, 2, 1, 1⟩
/-- `SHAPE_1212` (R50, R57): bitmap 0x0252, PatternID 10. -/
def execShape1212 (st : State) : Out := st.selectShape ⟨1, 2, 1, 2⟩
/-- `SHAPE_1213` (R50, R57): bitmap 0x0452, PatternID 11. -/
def execShape1213 (st : State) : Out := st.selectShape ⟨1, 2, 1, 3⟩
/-- `SHAPE_1221` (R50, R57): bitmap 0x0292, PatternID 12. -/
def execShape1221 (st : State) : Out := st.selectShape ⟨1, 2, 2, 1⟩
/-- `SHAPE_1222` (R50, R57): bitmap 0x0492, PatternID 13. -/
def execShape1222 (st : State) : Out := st.selectShape ⟨1, 2, 2, 2⟩
/-- `SHAPE_1223` (R50, R57): bitmap 0x0892, PatternID 14. -/
def execShape1223 (st : State) : Out := st.selectShape ⟨1, 2, 2, 3⟩
/-- `SHAPE_1231` (R50, R57): bitmap 0x0512, PatternID 15. -/
def execShape1231 (st : State) : Out := st.selectShape ⟨1, 2, 3, 1⟩
/-- `SHAPE_1232` (R50, R57): bitmap 0x0912, PatternID 16. -/
def execShape1232 (st : State) : Out := st.selectShape ⟨1, 2, 3, 2⟩
/-- `SHAPE_1233` (R50, R57): bitmap 0x1112, PatternID 17. -/
def execShape1233 (st : State) : Out := st.selectShape ⟨1, 2, 3, 3⟩
/-- `SHAPE_1311` (R50, R57): bitmap 0x02A2, PatternID 18. -/
def execShape1311 (st : State) : Out := st.selectShape ⟨1, 3, 1, 1⟩
/-- `SHAPE_1312` (R50, R57): bitmap 0x04A2, PatternID 19. -/
def execShape1312 (st : State) : Out := st.selectShape ⟨1, 3, 1, 2⟩
/-- `SHAPE_1313` (R50, R57): bitmap 0x08A2, PatternID 20. -/
def execShape1313 (st : State) : Out := st.selectShape ⟨1, 3, 1, 3⟩
/-- `SHAPE_1321` (R50, R57): bitmap 0x0522, PatternID 21. -/
def execShape1321 (st : State) : Out := st.selectShape ⟨1, 3, 2, 1⟩
/-- `SHAPE_1322` (R50, R57): bitmap 0x0922, PatternID 22. -/
def execShape1322 (st : State) : Out := st.selectShape ⟨1, 3, 2, 2⟩
/-- `SHAPE_1323` (R50, R57): bitmap 0x1122, PatternID 23. -/
def execShape1323 (st : State) : Out := st.selectShape ⟨1, 3, 2, 3⟩
/-- `SHAPE_1331` (R50, R57): bitmap 0x0A22, PatternID 24. -/
def execShape1331 (st : State) : Out := st.selectShape ⟨1, 3, 3, 1⟩
/-- `SHAPE_1332` (R50, R57): bitmap 0x1222, PatternID 25. -/
def execShape1332 (st : State) : Out := st.selectShape ⟨1, 3, 3, 2⟩
/-- `SHAPE_1333` (R50, R57): bitmap 0x2222, PatternID 26. -/
def execShape1333 (st : State) : Out := st.selectShape ⟨1, 3, 3, 3⟩
/-- `SHAPE_2111` (R50, R57): bitmap 0x0154, PatternID 27. -/
def execShape2111 (st : State) : Out := st.selectShape ⟨2, 1, 1, 1⟩
/-- `SHAPE_2112` (R50, R57): bitmap 0x0254, PatternID 28. -/
def execShape2112 (st : State) : Out := st.selectShape ⟨2, 1, 1, 2⟩
/-- `SHAPE_2113` (R50, R57): bitmap 0x0454, PatternID 29. -/
def execShape2113 (st : State) : Out := st.selectShape ⟨2, 1, 1, 3⟩
/-- `SHAPE_2121` (R50, R57): bitmap 0x0294, PatternID 30. -/
def execShape2121 (st : State) : Out := st.selectShape ⟨2, 1, 2, 1⟩
/-- `SHAPE_2122` (R50, R57): bitmap 0x0494, PatternID 31. -/
def execShape2122 (st : State) : Out := st.selectShape ⟨2, 1, 2, 2⟩
/-- `SHAPE_2123` (R50, R57): bitmap 0x0894, PatternID 32. -/
def execShape2123 (st : State) : Out := st.selectShape ⟨2, 1, 2, 3⟩
/-- `SHAPE_2131` (R50, R57): bitmap 0x0514, PatternID 33. -/
def execShape2131 (st : State) : Out := st.selectShape ⟨2, 1, 3, 1⟩
/-- `SHAPE_2132` (R50, R57): bitmap 0x0914, PatternID 34. -/
def execShape2132 (st : State) : Out := st.selectShape ⟨2, 1, 3, 2⟩
/-- `SHAPE_2133` (R50, R57): bitmap 0x1114, PatternID 35. -/
def execShape2133 (st : State) : Out := st.selectShape ⟨2, 1, 3, 3⟩
/-- `SHAPE_2211` (R50, R57): bitmap 0x02A4, PatternID 36. -/
def execShape2211 (st : State) : Out := st.selectShape ⟨2, 2, 1, 1⟩
/-- `SHAPE_2212` (R50, R57): bitmap 0x04A4, PatternID 37. -/
def execShape2212 (st : State) : Out := st.selectShape ⟨2, 2, 1, 2⟩
/-- `SHAPE_2213` (R50, R57): bitmap 0x08A4, PatternID 38. -/
def execShape2213 (st : State) : Out := st.selectShape ⟨2, 2, 1, 3⟩
/-- `SHAPE_2221` (R50, R57): bitmap 0x0524, PatternID 39. -/
def execShape2221 (st : State) : Out := st.selectShape ⟨2, 2, 2, 1⟩
/-- `SHAPE_2222` (R50, R57): bitmap 0x0924, PatternID 40. -/
def execShape2222 (st : State) : Out := st.selectShape ⟨2, 2, 2, 2⟩
/-- `SHAPE_2223` (R50, R57): bitmap 0x1124, PatternID 41. -/
def execShape2223 (st : State) : Out := st.selectShape ⟨2, 2, 2, 3⟩
/-- `SHAPE_2231` (R50, R57): bitmap 0x0A24, PatternID 42. -/
def execShape2231 (st : State) : Out := st.selectShape ⟨2, 2, 3, 1⟩
/-- `SHAPE_2232` (R50, R57): bitmap 0x1224, PatternID 43. -/
def execShape2232 (st : State) : Out := st.selectShape ⟨2, 2, 3, 2⟩
/-- `SHAPE_2233` (R50, R57): bitmap 0x2224, PatternID 44. -/
def execShape2233 (st : State) : Out := st.selectShape ⟨2, 2, 3, 3⟩
/-- `SHAPE_2311` (R50, R57): bitmap 0x0544, PatternID 45. -/
def execShape2311 (st : State) : Out := st.selectShape ⟨2, 3, 1, 1⟩
/-- `SHAPE_2312` (R50, R57): bitmap 0x0944, PatternID 46. -/
def execShape2312 (st : State) : Out := st.selectShape ⟨2, 3, 1, 2⟩
/-- `SHAPE_2313` (R50, R57): bitmap 0x1144, PatternID 47. -/
def execShape2313 (st : State) : Out := st.selectShape ⟨2, 3, 1, 3⟩
/-- `SHAPE_2321` (R50, R57): bitmap 0x0A44, PatternID 48. -/
def execShape2321 (st : State) : Out := st.selectShape ⟨2, 3, 2, 1⟩
/-- `SHAPE_2322` (R50, R57): bitmap 0x1244, PatternID 49. -/
def execShape2322 (st : State) : Out := st.selectShape ⟨2, 3, 2, 2⟩
/-- `SHAPE_2323` (R50, R57): bitmap 0x2244, PatternID 50. -/
def execShape2323 (st : State) : Out := st.selectShape ⟨2, 3, 2, 3⟩
/-- `SHAPE_2331` (R50, R57): bitmap 0x1444, PatternID 51. -/
def execShape2331 (st : State) : Out := st.selectShape ⟨2, 3, 3, 1⟩
/-- `SHAPE_2332` (R50, R57): bitmap 0x2444, PatternID 52. -/
def execShape2332 (st : State) : Out := st.selectShape ⟨2, 3, 3, 2⟩
/-- `SHAPE_2333` (R50, R57): bitmap 0x4444, PatternID 53. -/
def execShape2333 (st : State) : Out := st.selectShape ⟨2, 3, 3, 3⟩
/-- `SHAPE_3111` (R50, R57): bitmap 0x02A8, PatternID 54. -/
def execShape3111 (st : State) : Out := st.selectShape ⟨3, 1, 1, 1⟩
/-- `SHAPE_3112` (R50, R57): bitmap 0x04A8, PatternID 55. -/
def execShape3112 (st : State) : Out := st.selectShape ⟨3, 1, 1, 2⟩
/-- `SHAPE_3113` (R50, R57): bitmap 0x08A8, PatternID 56. -/
def execShape3113 (st : State) : Out := st.selectShape ⟨3, 1, 1, 3⟩
/-- `SHAPE_3121` (R50, R57): bitmap 0x0528, PatternID 57. -/
def execShape3121 (st : State) : Out := st.selectShape ⟨3, 1, 2, 1⟩
/-- `SHAPE_3122` (R50, R57): bitmap 0x0928, PatternID 58. -/
def execShape3122 (st : State) : Out := st.selectShape ⟨3, 1, 2, 2⟩
/-- `SHAPE_3123` (R50, R57): bitmap 0x1128, PatternID 59. -/
def execShape3123 (st : State) : Out := st.selectShape ⟨3, 1, 2, 3⟩
/-- `SHAPE_3131` (R50, R57): bitmap 0x0A28, PatternID 60. -/
def execShape3131 (st : State) : Out := st.selectShape ⟨3, 1, 3, 1⟩
/-- `SHAPE_3132` (R50, R57): bitmap 0x1228, PatternID 61. -/
def execShape3132 (st : State) : Out := st.selectShape ⟨3, 1, 3, 2⟩
/-- `SHAPE_3133` (R50, R57): bitmap 0x2228, PatternID 62. -/
def execShape3133 (st : State) : Out := st.selectShape ⟨3, 1, 3, 3⟩
/-- `SHAPE_3211` (R50, R57): bitmap 0x0548, PatternID 63. -/
def execShape3211 (st : State) : Out := st.selectShape ⟨3, 2, 1, 1⟩
/-- `SHAPE_3212` (R50, R57): bitmap 0x0948, PatternID 64. -/
def execShape3212 (st : State) : Out := st.selectShape ⟨3, 2, 1, 2⟩
/-- `SHAPE_3213` (R50, R57): bitmap 0x1148, PatternID 65. -/
def execShape3213 (st : State) : Out := st.selectShape ⟨3, 2, 1, 3⟩
/-- `SHAPE_3221` (R50, R57): bitmap 0x0A48, PatternID 66. -/
def execShape3221 (st : State) : Out := st.selectShape ⟨3, 2, 2, 1⟩
/-- `SHAPE_3222` (R50, R57): bitmap 0x1248, PatternID 67. -/
def execShape3222 (st : State) : Out := st.selectShape ⟨3, 2, 2, 2⟩
/-- `SHAPE_3223` (R50, R57): bitmap 0x2248, PatternID 68. -/
def execShape3223 (st : State) : Out := st.selectShape ⟨3, 2, 2, 3⟩
/-- `SHAPE_3231` (R50, R57): bitmap 0x1448, PatternID 69. -/
def execShape3231 (st : State) : Out := st.selectShape ⟨3, 2, 3, 1⟩
/-- `SHAPE_3232` (R50, R57): bitmap 0x2448, PatternID 70. -/
def execShape3232 (st : State) : Out := st.selectShape ⟨3, 2, 3, 2⟩
/-- `SHAPE_3233` (R50, R57): bitmap 0x4448, PatternID 71. -/
def execShape3233 (st : State) : Out := st.selectShape ⟨3, 2, 3, 3⟩
/-- `SHAPE_3311` (R50, R57): bitmap 0x0A88, PatternID 72. -/
def execShape3311 (st : State) : Out := st.selectShape ⟨3, 3, 1, 1⟩
/-- `SHAPE_3312` (R50, R57): bitmap 0x1288, PatternID 73. -/
def execShape3312 (st : State) : Out := st.selectShape ⟨3, 3, 1, 2⟩
/-- `SHAPE_3313` (R50, R57): bitmap 0x2288, PatternID 74. -/
def execShape3313 (st : State) : Out := st.selectShape ⟨3, 3, 1, 3⟩
/-- `SHAPE_3321` (R50, R57): bitmap 0x1488, PatternID 75. -/
def execShape3321 (st : State) : Out := st.selectShape ⟨3, 3, 2, 1⟩
/-- `SHAPE_3322` (R50, R57): bitmap 0x2488, PatternID 76. -/
def execShape3322 (st : State) : Out := st.selectShape ⟨3, 3, 2, 2⟩
/-- `SHAPE_3323` (R50, R57): bitmap 0x4488, PatternID 77. -/
def execShape3323 (st : State) : Out := st.selectShape ⟨3, 3, 2, 3⟩
/-- `SHAPE_3331` (R50, R57): bitmap 0x2888, PatternID 78. -/
def execShape3331 (st : State) : Out := st.selectShape ⟨3, 3, 3, 1⟩
/-- `SHAPE_3332` (R50, R57): bitmap 0x4888, PatternID 79. -/
def execShape3332 (st : State) : Out := st.selectShape ⟨3, 3, 3, 2⟩
/-- `SHAPE_3333` (R50, R57): bitmap 0x8888, PatternID 80. -/
def execShape3333 (st : State) : Out := st.selectShape ⟨3, 3, 3, 3⟩

end Sys2Proof.Machine
end

