-- ==== Sys2Proof/Machine/Dispatch.lean ====
section
/-!
DEFINITION. The dispatch of `exec`: one arm per constructor of `Instr`, each one direct call of its meaning.
-/

namespace Sys2Proof.Machine

open Sys2Proof

def exec (i : Instr) (s : State) : Host.Outcome State Fault Refusal :=
  match i with
  | .lenchk => Sys2Proof.Machine.execLenchk s
  | .cmpsep => Sys2Proof.Machine.execCmpsep s
  | .bitmask => Sys2Proof.Machine.execBitmask s
  | .lenmask => Sys2Proof.Machine.execLenmask s
  | .hash => Sys2Proof.Machine.execHash s
  | .pidlook => Sys2Proof.Machine.execPidlook s
  | .shapeconf => Sys2Proof.Machine.execShapeconf s
  | .descsel => Sys2Proof.Machine.execDescsel s
  | .gather => Sys2Proof.Machine.execGather s
  | .lzchk => Sys2Proof.Machine.execLzchk s
  | .canon => Sys2Proof.Machine.execCanon s
  | .subzero => Sys2Proof.Machine.execSubzero s
  | .digchk => Sys2Proof.Machine.execDigchk s
  | .wmul => Sys2Proof.Machine.execWmul s
  | .pairadd => Sys2Proof.Machine.execPairadd s
  | .fold => Sys2Proof.Machine.execFold s
  | .ovfchk => Sys2Proof.Machine.execOvfchk s
  | .narrow => Sys2Proof.Machine.execNarrow s
  | .pack => Sys2Proof.Machine.execPack s
  | .parse => Sys2Proof.Machine.execParse s
  | .load => Sys2Proof.Machine.execLoad s
  | .shape1111 => Sys2Proof.Machine.execShape1111 s
  | .shape1112 => Sys2Proof.Machine.execShape1112 s
  | .shape1113 => Sys2Proof.Machine.execShape1113 s
  | .shape1121 => Sys2Proof.Machine.execShape1121 s
  | .shape1122 => Sys2Proof.Machine.execShape1122 s
  | .shape1123 => Sys2Proof.Machine.execShape1123 s
  | .shape1131 => Sys2Proof.Machine.execShape1131 s
  | .shape1132 => Sys2Proof.Machine.execShape1132 s
  | .shape1133 => Sys2Proof.Machine.execShape1133 s
  | .shape1211 => Sys2Proof.Machine.execShape1211 s
  | .shape1212 => Sys2Proof.Machine.execShape1212 s
  | .shape1213 => Sys2Proof.Machine.execShape1213 s
  | .shape1221 => Sys2Proof.Machine.execShape1221 s
  | .shape1222 => Sys2Proof.Machine.execShape1222 s
  | .shape1223 => Sys2Proof.Machine.execShape1223 s
  | .shape1231 => Sys2Proof.Machine.execShape1231 s
  | .shape1232 => Sys2Proof.Machine.execShape1232 s
  | .shape1233 => Sys2Proof.Machine.execShape1233 s
  | .shape1311 => Sys2Proof.Machine.execShape1311 s
  | .shape1312 => Sys2Proof.Machine.execShape1312 s
  | .shape1313 => Sys2Proof.Machine.execShape1313 s
  | .shape1321 => Sys2Proof.Machine.execShape1321 s
  | .shape1322 => Sys2Proof.Machine.execShape1322 s
  | .shape1323 => Sys2Proof.Machine.execShape1323 s
  | .shape1331 => Sys2Proof.Machine.execShape1331 s
  | .shape1332 => Sys2Proof.Machine.execShape1332 s
  | .shape1333 => Sys2Proof.Machine.execShape1333 s
  | .shape2111 => Sys2Proof.Machine.execShape2111 s
  | .shape2112 => Sys2Proof.Machine.execShape2112 s
  | .shape2113 => Sys2Proof.Machine.execShape2113 s
  | .shape2121 => Sys2Proof.Machine.execShape2121 s
  | .shape2122 => Sys2Proof.Machine.execShape2122 s
  | .shape2123 => Sys2Proof.Machine.execShape2123 s
  | .shape2131 => Sys2Proof.Machine.execShape2131 s
  | .shape2132 => Sys2Proof.Machine.execShape2132 s
  | .shape2133 => Sys2Proof.Machine.execShape2133 s
  | .shape2211 => Sys2Proof.Machine.execShape2211 s
  | .shape2212 => Sys2Proof.Machine.execShape2212 s
  | .shape2213 => Sys2Proof.Machine.execShape2213 s
  | .shape2221 => Sys2Proof.Machine.execShape2221 s
  | .shape2222 => Sys2Proof.Machine.execShape2222 s
  | .shape2223 => Sys2Proof.Machine.execShape2223 s
  | .shape2231 => Sys2Proof.Machine.execShape2231 s
  | .shape2232 => Sys2Proof.Machine.execShape2232 s
  | .shape2233 => Sys2Proof.Machine.execShape2233 s
  | .shape2311 => Sys2Proof.Machine.execShape2311 s
  | .shape2312 => Sys2Proof.Machine.execShape2312 s
  | .shape2313 => Sys2Proof.Machine.execShape2313 s
  | .shape2321 => Sys2Proof.Machine.execShape2321 s
  | .shape2322 => Sys2Proof.Machine.execShape2322 s
  | .shape2323 => Sys2Proof.Machine.execShape2323 s
  | .shape2331 => Sys2Proof.Machine.execShape2331 s
  | .shape2332 => Sys2Proof.Machine.execShape2332 s
  | .shape2333 => Sys2Proof.Machine.execShape2333 s
  | .shape3111 => Sys2Proof.Machine.execShape3111 s
  | .shape3112 => Sys2Proof.Machine.execShape3112 s
  | .shape3113 => Sys2Proof.Machine.execShape3113 s
  | .shape3121 => Sys2Proof.Machine.execShape3121 s
  | .shape3122 => Sys2Proof.Machine.execShape3122 s
  | .shape3123 => Sys2Proof.Machine.execShape3123 s
  | .shape3131 => Sys2Proof.Machine.execShape3131 s
  | .shape3132 => Sys2Proof.Machine.execShape3132 s
  | .shape3133 => Sys2Proof.Machine.execShape3133 s
  | .shape3211 => Sys2Proof.Machine.execShape3211 s
  | .shape3212 => Sys2Proof.Machine.execShape3212 s
  | .shape3213 => Sys2Proof.Machine.execShape3213 s
  | .shape3221 => Sys2Proof.Machine.execShape3221 s
  | .shape3222 => Sys2Proof.Machine.execShape3222 s
  | .shape3223 => Sys2Proof.Machine.execShape3223 s
  | .shape3231 => Sys2Proof.Machine.execShape3231 s
  | .shape3232 => Sys2Proof.Machine.execShape3232 s
  | .shape3233 => Sys2Proof.Machine.execShape3233 s
  | .shape3311 => Sys2Proof.Machine.execShape3311 s
  | .shape3312 => Sys2Proof.Machine.execShape3312 s
  | .shape3313 => Sys2Proof.Machine.execShape3313 s
  | .shape3321 => Sys2Proof.Machine.execShape3321 s
  | .shape3322 => Sys2Proof.Machine.execShape3322 s
  | .shape3323 => Sys2Proof.Machine.execShape3323 s
  | .shape3331 => Sys2Proof.Machine.execShape3331 s
  | .shape3332 => Sys2Proof.Machine.execShape3332 s
  | .shape3333 => Sys2Proof.Machine.execShape3333 s

end Sys2Proof.Machine
end

