-- ==== Sys2Proof/Machine/Ports.lean ====
section
/-!
DEFINITION. The ports and the clock (`spec/10_state.md` R19, R22, R23, `spec/46_parse_operation.md` R105,
`spec/70_reset_and_hazards.md` R130): the outputs as functions of the inputs for `LAT` = 0, and the ranks of pipeline registers
for `LAT` > 0. Nothing is stored for the outputs: they are views of the state.
-/

namespace Sys2Proof.Machine

open Sys2Proof

/-- The outcome at the ports: for `LAT` = 0, `PARSE` of what is on the input ports at this instant; for `LAT` > 0, `PARSE` of the
pair in the last rank when that rank is valid, else absent (R105). -/
def State.portOutcome (st : State) : Option (BitVec 32) :=
  match st.pipe.getLast? with
  | none => outcomeValue (parseOutcome (Memory.lanes st.win) st.length)
  | some r => if r.valid then outcomeValue (parseOutcome r.w r.len) else none

/-- The output port `ok` (R23). -/
def State.portOk (st : State) : Bool := st.portOutcome.isSome

/-- The output port `result`: 0x00000000 when `ok` = 0 (R23, R115). -/
def State.portResult (st : State) : BitVec 32 := st.portOutcome.getD 0

/-- The output port `out_valid`: present for `LAT` > 0 only (R23). -/
def State.portOutValid (st : State) : Option Bool := st.pipe.getLast?.map Rank.valid

/-- What enters the first rank at a rising edge: the pair on the input ports, sampled together, when `in_valid` = 1 (R30, R105);
otherwise a rank that is not valid, whose data is not specified (R22). -/
def State.sampled (st : State) (inValid : Bool) : Rank :=
  if inValid then ⟨true, Memory.lanes st.win, st.length⟩ else Rank.unset st.drawn

/-- One rising edge of `clk` (R105, R130). With `rst` = 1 every valid bit is cleared, nothing is sampled, and the data registers
are unspecified; with `rst` = 0 every rank moves on by one. For `LAT` = 0 there is no clock and nothing to change (R130). -/
def State.clock (st : State) (rst inValid : Bool) : State :=
  if st.pipe = [] then st
  else if rst then
    st.setPipe ((List.range st.pipe.length).map fun i => Rank.unset (st.drawn + i)) (st.drawn + st.pipe.length)
  else st.setPipe ((st.sampled inValid :: st.pipe).dropLast) (if inValid then st.drawn else st.drawn + 1)

end Sys2Proof.Machine
end

