-- ==== Sys2Proof/Machine/Fetch.lean ====
section
/-!
DEFINITION. What comes next: the code that the next step decodes, or the host's act it carries out. The block fetches no
instructions (`spec/10_state.md` R15); its "program counter" is the stage index, whose value is the ordinal of the operation to
run, and its one decoded word is the SeparatorBitmap (`spec/30_encoding.md` R57). A transaction in progress is never
interrupted (`spec/60_exceptions.md` R118): the host's acts wait until it has ended.
-/

namespace Sys2Proof.Machine

open Sys2Proof

/-- What a step finds to do: a code and the state to run it in, or an act of the host that is no row of the table and the state
after it. -/
inductive Fetched where
  | code (c : Code) (st : State)
  | host (st : State)
deriving DecidableEq, Repr

/-- The code of the operation whose ordinal the stage index holds (R15, R56); at stage 4, when the bitmap is read by the `SHAPE`
rows, the bitmap itself (R57). -/
def fetchStage (st : State) (ord : Fin 19) : Code :=
  if ord = 4 ∧ st.byDecoder = true then
    match st.txn.bm with
    | some bm => .bitmap bm
    | none => .stage 4
  else .stage (BitVec.ofNat 5 ord.val)

/-- The host's next act (R32, R99, R105); with none to come the block is ready and nothing changes (R131). -/
def fetchRequest (st : State) : Fetched :=
  match st.requests with
  | [] => .host st
  | .buffer bytes :: rest => .host ((st.setRequests rest).setHost (Memory.ofBytes bytes) bytes.length)
  | .load :: rest => .code (.stage 0x14) (st.setRequests rest)
  | .drive window length :: rest =>
    .host (((st.setRequests rest).setWin (Memory.writeFrom st.win 0 (busLanes window).toList)).setLength length)
  | .present :: rest => .host (st.setRequests rest).present
  | .parse :: rest => .code (.stage 0x13) (st.setRequests rest)
  | .cycle rst inValid :: rest => .host ((st.setRequests rest).clock rst inValid)

/-- What comes next: the transaction in progress, or the host's next act, with nothing left of a transaction that has ended
(R131). -/
def fetch (st : State) : Fetched :=
  match st.txn.stage with
  | .run ord => .code (fetchStage st ord) st
  | .idle => fetchRequest st.retire
  | .doneOk => fetchRequest st.retire
  | .doneReject => fetchRequest st.retire

/-- A code that the decoder rejects: a bitmap that is no legal one rejects the input (R55); a row key without a row is refused,
and none is ever fetched. -/
def undecoded (e : DecodeReject) (st : State) : Out :=
  match e with
  | .illegalBitmap bm => st.rejectBitmap bm
  | .noStageRow key => .refused (.undecodable (.noStageRow key))
  | .noCode => .refused (.undecodable .noCode)

/-! ## Placing an instruction where the next step finds it -/

/-- The position of the guard bit of a bitmap: its most-significant 1, which is `LEN` (R43). -/
def guardBit (bm : BitVec 16) : Nat := bm.toNat.log2

/-- A window whose bitmap, at length `guardBit bm`, is `bm`: "." where `bm` has a separator bit below its guard, "1" elsewhere
(R43: each bitmap is reached by exactly one length and separator pattern; log entry 4). -/
def bitmapWindow (bm : BitVec 16) : Window :=
  Vector.ofFn fun i => if i.val < guardBit bm then (if bm.getLsbD i.val then Config.sep else 0x31) else 0x00

/-- The transaction on that window and length, as it stands when the first `k` operations have run. -/
def reachStage (st : State) (bm : BitVec 16) (k : Nat) : State :=
  match runOps (chainOps.take k) (st.setTxn (Txn.fresh (bitmapWindow bm) (guardBit bm))) with
  | .next st' => st'
  | .fault _ => st
  | .refused _ => st

/-- Put the instruction of a code where `fetch` finds it: a stage operation, by a transaction that has arrived at its stage; a
bitmap, by a transaction whose `BM` it is, read by the `SHAPE` rows; `PARSE` and `LOAD`, as the host's next act (log entry 4). -/
def placeCode (st : State) (c : Code) : State :=
  match c with
  | .stage key =>
    if key.toNat < 19 then (reachStage st 0x00AA key.toNat).setByDecoder false
    else if key = 0x13 then st.retire.setRequests (.parse :: st.requests)
    else if key = 0x14 then st.retire.setRequests (.load :: st.requests)
    else st
  | .bitmap bm => (reachStage st bm 4).setByDecoder true

/-- Put the instruction of a table word where `fetch` finds it. -/
def placeWord (st : State) (nbits w : Nat) : State :=
  match codeOfBytes (tableBytes nbits w) with
  | .ok c => placeCode st c
  | .error _ => st

end Sys2Proof.Machine
end

