-- ==== Sys2Proof/Machine/Step.lean ====
section
/-!
DEFINITION. One step of the machine: the stage operation at hand, or the host's next act (`spec/46_parse_operation.md` R97).
-/

namespace Sys2Proof.Machine

open Sys2Proof

/-- One step. -/
def step (st : State) : Host.Outcome State Fault Refusal :=
  match fetch st with
  | .host st' => .next st'
  | .code c st' =>
    match decode c with
    | .ok i => exec i st'
    | .error e => undecoded e st'

/-- The state with the instruction of a table word stored where `step` fetches next (log entry 4). -/
def State.withFetchWord (s : State) (nbits w : Nat) : State := placeWord s nbits w

end Sys2Proof.Machine
end

