-- ==== Sys2Proof/Machine/Parallel.lean ====
section
/-!
DEFINITION. Two builds of `PARSE` that the spec allows beside the chain: every operation evaluated on every transaction
(`spec/46_parse_operation.md` R104), each extended to its whole input domain by the free values of `Config`; and the chain with
the length confirmation G2' in place of G2 (`spec/41_hash_dispatcher.md` R73).
-/

namespace Sys2Proof.Machine

open Sys2Proof

/-- The parallel evaluation (R104): all six flags are formed, `ok` is their conjunction, and `result` is `RES` when `ok` = 1 and
0 otherwise. -/
def parallelPorts (w : Window) (len : Nat) : Bool × BitVec 32 :=
  let bm := lenmaskValue (bitmaskValue (cmpsepValue w)) len
  let pid := pidrom (hashCode (hashProduct bm))
  let desc := descrom pid
  let gl := gatherValue w desc
  let dl := subzeroValue (canonValue gl desc)
  let s := foldValue (pairaddValue (wmulValue dl))
  let ok := lengthOk len && hashOk pid && shapeOk bm pid && leadingOk gl (leadingLanes desc) && digitsOk dl && sumsOk s
  (ok, if ok then packValue (narrowValue s) else 0)

/-- The test G2': the length is the index of the last digit of the last group, plus one (R73). -/
def lengthConfirms (len : Nat) (desc : Descriptor) : Bool :=
  match desc[onesLane 3] with
  | .index k => len == k.val + 1
  | .miss => false

/-- `PARSE` with G2' in place of G2 (R73). -/
def parseByLength (w : Window) (len : Nat) : Except Cause (BitVec 32) :=
  if lengthOk len then
    let pid := pidrom (hashCode (hashProduct (lenmaskValue (bitmaskValue (cmpsepValue w)) len)))
    if hashOk pid then
      let desc := descrom pid
      if lengthConfirms len desc then
        let gl := gatherValue w desc
        if leadingOk gl (leadingLanes desc) then
          let dl := subzeroValue (canonValue gl desc)
          if digitsOk dl then
            let s := foldValue (pairaddValue (wmulValue dl))
            if sumsOk s then .ok (packValue (narrowValue s)) else .error .overflow
          else .error .digitRange
        else .error .leadingZero
      else .error .shapeConfirm
    else .error .shapeHash
  else .error .len

end Sys2Proof.Machine
end

