-- ==== Sys2Proof/Safety.lean ====
section
/-!
DEFINITION. The terms the claims use: the accepted language (`spec/30_encoding.md` R40), the text of a value
(`spec/46_parse_operation.md` R103), the values of a transaction in the closed form of R97, the transaction as it must stand
after n operations (R14 to R16, R98, R115, R116), the invariant of the machine, and sequences of clock cycles (R105).
-/

namespace Sys2Proof.Machine

open Sys2Proof

/-! ## The accepted language (R40) -/

/-- `DIGIT`: 0x30 to 0x39. -/
def isDigit (b : Byte) : Bool := decide (0x30 ≤ b.toNat ∧ b.toNat ≤ 0x39)

/-- A digit's value: the character minus "0" (R41). -/
def digitValue (b : Byte) : Nat := b.toNat - 0x30

/-- `octet` (R40), with the decimal value of the text: 0 to 9, 10 to 99, 100 to 199, 200 to 249, 250 to 255. -/
def octetValue : List Byte → Option Nat
  | [x] => if isDigit x then some (digitValue x) else none
  | [x, y] => if isDigit x ∧ x ≠ 0x30 ∧ isDigit y then some (10 * digitValue x + digitValue y) else none
  | [x, y, z] =>
    if x = 0x31 ∧ isDigit y ∧ isDigit z then some (100 + 10 * digitValue y + digitValue z)
    else if x = 0x32 ∧ (0x30 ≤ y.toNat ∧ y.toNat ≤ 0x34) ∧ isDigit z then some (200 + 10 * digitValue y + digitValue z)
    else if x = 0x32 ∧ y = 0x35 ∧ (0x30 ≤ z.toNat ∧ z.toNat ≤ 0x35) then some (250 + digitValue z)
    else none
  | _ => none

/-- `literal` (R40): `text` is octet "." octet "." octet "." octet, with the values a, b, c, d in text order. -/
def IsLiteral (text : List Byte) (a b c d : Nat) : Prop :=
  ∃ ta tb tc td : List Byte,
    text = ta ++ [0x2E] ++ tb ++ [0x2E] ++ tc ++ [0x2E] ++ td ∧
      octetValue ta = some a ∧ octetValue tb = some b ∧ octetValue tc = some c ∧ octetValue td = some d

/-- The result word of four values, the first in the least-significant byte (R27, R54). -/
def resultWord (a b c d : Nat) : BitVec 32 := BitVec.ofNat 32 (a + 256 * b + 65536 * c + 16777216 * d)

/-- A decimal numeral without leading zeros, for a number below 1000 (R103). -/
def numeral (n : Nat) : List Byte :=
  let digit (k : Nat) : Byte := BitVec.ofNat 8 (0x30 + k)
  if n < 10 then [digit n]
  else if n < 100 then [digit (n / 10), digit (n % 10)]
  else [digit (n / 100), digit (n / 10 % 10), digit (n % 10)]

/-- text(v): the four bytes of v, least significant first, as numerals joined by "." (R103). -/
def addressText (v : BitVec 32) : List Byte :=
  numeral (v.extractLsb' 0 8).toNat ++ [0x2E] ++ numeral (v.extractLsb' 8 8).toNat ++ [0x2E] ++
    numeral (v.extractLsb' 16 8).toNat ++ [0x2E] ++ numeral (v.extractLsb' 24 8).toNat

/-! ## The closed form of R97 -/

/-- `CMP[i]`, `RAWBM`: which bytes of the window are ".". -/
def refRaw (w : Window) : Nat := ∑ i : Fin 16, if w[i] = 0x2E then 2 ^ i.val else 0

/-- `BM` = (sum over i < LEN of [W[i] = 0x2E] 2^i) + 2^LEN, for LEN ≤ 15. -/
def refBitmap (w : Window) (len : Nat) : BitVec 16 :=
  BitVec.ofNat 16 ((∑ i : Fin 16, if i.val < len ∧ w[i] = 0x2E then 2 ^ i.val else 0) + 2 ^ len)

/-- `HC` = floor(6639 BM / 8192) mod 256. -/
def refHash (bm : BitVec 16) : Byte := BitVec.ofNat 8 (6639 * bm.toNat / 8192)

/-- `PID` = PIDROM[HC]. -/
def refPid (w : Window) (len : Nat) : Byte := pidrom (refHash (refBitmap w len))

/-- `DESC` = DESCROM[PID]. -/
def refDesc (w : Window) (len : Nat) : Descriptor := descrom (refPid w len)

/-- `GL[i]` = W[DESC[i]] if DESC[i] is an index, else 0. -/
def refGl (w : Window) (len : Nat) : Lanes Byte :=
  Vector.ofFn fun i => match (refDesc w len)[i] with
    | .index k => w[k]
    | .miss => 0

/-- `CL[i]` = GL[i] if DESC[i] is an index, else "0". -/
def refCl (w : Window) (len : Nat) : Lanes Byte :=
  Vector.ofFn fun i => match (refDesc w len)[i] with
    | .index k => w[k]
    | .miss => 0x30

/-- `DL[i]` = (GL[i] - 0x30) mod 256 if DESC[i] is an index, else 0. -/
def refDl (w : Window) (len : Nat) : Lanes Byte :=
  Vector.ofFn fun i => match (refDesc w len)[i] with
    | .index k => BitVec.ofNat 8 (w[k].toNat + 256 - 0x30)
    | .miss => 0

/-- `S[g]` = DL[2g] + 10 DL[2g+1] + 100 DL[8+2g], as a natural number. -/
def refSum (w : Window) (len : Nat) (g : Fin 4) : Nat :=
  (refDl w len)[2 * g.val].toNat + 10 * (refDl w len)[2 * g.val + 1].toNat + 100 * (refDl w len)[8 + 2 * g.val].toNat

/-- `RES` = S[0] + 2^8 S[1] + 2^16 S[2] + 2^24 S[3]. -/
def refResult (w : Window) (len : Nat) : BitVec 32 :=
  resultWord (refSum w len 0) (refSum w len 1) (refSum w len 2) (refSum w len 3)

/-- The lane of group g under the leading-zero check: hundreds if not miss, else tens if not miss, else none (R79). -/
def checkedLane (desc : Descriptor) (g : Fin 4) : Option (Fin 16) :=
  if desc[8 + 2 * g.val] ≠ .miss then some (hundredsLane g)
  else if desc[2 * g.val + 1] ≠ .miss then some (tensLane g)
  else none

/-- Whether the gate of cause `c` passes, in the terms of R97's closed form. -/
def refGate (w : Window) (len : Nat) : Cause → Bool
  | .len => decide (len ≤ 15)
  | .shapeHash => decide ((refPid w len).toNat < 81)
  | .shapeConfirm => refBitmap w len == xbmrom (refPid w len)
  | .leadingZero => decide (∀ g i, checkedLane (refDesc w len) g = some i → (refGl w len)[i] ≠ 0x30)
  | .digitRange => decide (∀ i : Fin 16, (refDl w len)[i].toNat ≤ 9)
  | .overflow => decide (∀ g, refSum w len g ≤ 255)

/-- The first gate that fails, in chain order (R114). -/
def refCause (w : Window) (len : Nat) : Option Cause :=
  [Cause.len, .shapeHash, .shapeConfirm, .leadingZero, .digitRange, .overflow].find? fun c => !refGate w len c

/-- The ordinal of the gate of a cause (R56, R111). -/
def gateOrdinal : Cause → Nat
  | .len => 0
  | .shapeHash => 5
  | .shapeConfirm => 6
  | .leadingZero => 9
  | .digitRange => 12
  | .overflow => 16

/-- How many operations a transaction runs: up to and with the first gate that fails, or all 19 (R97, R115). -/
def refStop (w : Window) (len : Nat) : Nat :=
  match refCause w len with
  | some c => gateOrdinal c + 1
  | none => 19

/-- A value that the operation of ordinal `ord` writes, when `n` operations have run (R14). -/
def afterOp {α : Type} (n ord : Nat) (v : α) : Option α := if ord < n then some v else none

/-- The transaction on (`w`, `len`) when `n` operations have run, every value by the closed form (R13 to R16, R97, R115, R116):
what an operation writes exists exactly when the operation has run; the transaction ends after `refStop` of them. -/
def refTxn (w : Window) (len n : Nat) : Txn where
  stage := if n < refStop w len then .run (Fin.ofNat 19 n) else if refCause w len = none then .doneOk else .doneReject
  w := some w
  len := some len
  cmp := afterOp n 1 (Vector.ofFn fun i => decide (w[i] = 0x2E))
  rawbm := afterOp n 2 (BitVec.ofNat 16 (refRaw w))
  bm := afterOp n 3 (refBitmap w len)
  prod := afterOp n 4 (BitVec.ofNat 29 (6639 * (refBitmap w len).toNat))
  hc := afterOp n 4 (refHash (refBitmap w len))
  pid := afterOp n 5 (refPid w len)
  desc := afterOp n 7 (refDesc w len)
  gl := afterOp n 8 (refGl w len)
  lzmask := afterOp n 9 (Vector.ofFn fun i => decide (∃ g, checkedLane (refDesc w len) g = some i))
  cl := afterOp n 10 (refCl w len)
  dl := afterOp n 11 (refDl w len)
  p := afterOp n 13 (Vector.ofFn fun i => BitVec.ofNat 16 ((refDl w len)[i].toNat * laneWeight i))
  ps := afterOp n 14 (Vector.ofFn fun j =>
    BitVec.ofNat 16 ((refDl w len)[2 * j.val].toNat * laneWeight ⟨2 * j.val, by omega⟩ +
      (refDl w len)[2 * j.val + 1].toNat * laneWeight ⟨2 * j.val + 1, by omega⟩))
  s := afterOp n 15 (Vector.ofFn fun g => BitVec.ofNat 16 (refSum w len g))
  b := afterOp n 17 (Vector.ofFn fun g => BitVec.ofNat 8 (refSum w len g))
  res := if n < refStop w len then none else if refCause w len = none then some (refResult w len) else some 0
  ok := if n < refStop w len then none else some (decide (refCause w len = none))
  g0 := afterOp n 0 (refGate w len .len)
  g1 := afterOp n 5 (refGate w len .shapeHash)
  g2 := afterOp n 6 (refGate w len .shapeConfirm)
  g3 := afterOp n 9 (refGate w len .leadingZero)
  g4 := afterOp n 12 (refGate w len .digitRange)
  g5 := afterOp n 16 (refGate w len .overflow)

/-- Every datapath value that exists in `t` exists in `u`, and is the same (R116: "no output is partly formed"). The flags, `OK`,
`RES` and the stage index, which a rejection sets (R115), are left out. -/
def Txn.Within (t u : Txn) : Prop :=
  (∀ v, t.w = some v → u.w = some v) ∧ (∀ v, t.len = some v → u.len = some v) ∧ (∀ v, t.cmp = some v → u.cmp = some v) ∧
    (∀ v, t.rawbm = some v → u.rawbm = some v) ∧ (∀ v, t.bm = some v → u.bm = some v) ∧
    (∀ v, t.prod = some v → u.prod = some v) ∧ (∀ v, t.hc = some v → u.hc = some v) ∧
    (∀ v, t.pid = some v → u.pid = some v) ∧ (∀ v, t.desc = some v → u.desc = some v) ∧
    (∀ v, t.gl = some v → u.gl = some v) ∧ (∀ v, t.lzmask = some v → u.lzmask = some v) ∧
    (∀ v, t.cl = some v → u.cl = some v) ∧ (∀ v, t.dl = some v → u.dl = some v) ∧ (∀ v, t.p = some v → u.p = some v) ∧
    (∀ v, t.ps = some v → u.ps = some v) ∧ (∀ v, t.s = some v → u.s = some v) ∧ (∀ v, t.b = some v → u.b = some v)

/-! ## The invariant -/

/-- The transaction is none, or one that the chain leaves on some window and length. -/
def Txn.OnChain (t : Txn) : Prop := t = Txn.empty ∨ ∃ w len n, n ≤ refStop w len ∧ t = refTxn w len n

/-- What every step keeps: the two written spaces in canonical form and within their bounds (R25), a port width that the spec
allows (R7), and a transaction that is on the chain. -/
structure State.Inv (st : State) : Prop where
  win_wf : Memory.wf 16 st.win = true
  host_wf : Memory.wf st.hostLen st.hostBuf = true
  port_width : 5 ≤ st.lenW
  txn_on_chain : st.txn.OnChain

/-- No transaction is in progress: the host may act (R118, R131). -/
def State.Ready (st : State) : Prop := ∀ ord, st.txn.stage ≠ .run ord

/-! ## Clock cycles (R105) -/

/-- The levels of the input ports in one clock cycle (R23). -/
structure CycleIn where
  rst : Bool
  inValid : Bool
  window : BitVec 128
  length : Nat
deriving DecidableEq, Repr

/-- A sequence of clock cycles as the host's acts: in each the ports are driven, then `clk` rises. -/
def cycleRequests : List CycleIn → List Request
  | [] => []
  | c :: cs => .drive c.window c.length :: .cycle c.rst c.inValid :: cycleRequests cs

end Sys2Proof.Machine
end

