-- ==== Sys2Proof/Certificates/Slice0/Obligations.lean ====
section
/-!
DEFINITION. The statements for the provers. Where a docstring says "the spec marks this as derived", the statement formalises an
inference that the spec draws from its own rules; where it says "the model's choice", it names the log entry.
-/

open Sys2Proof Sys2Proof.Machine

/-! ## Codes and fetching -/

/-- Decoding the code of a well-formed instruction gives the instruction (R56, R57). -/
def Obligations.DecodeOfEncode : Prop :=
  ∀ i : Instr, i.wellFormed = true → decode (encode i) = .ok i

/-- A code that decodes is the code of the instruction it decodes to: no two codes share an instruction (R57). -/
def Obligations.EncodeOfDecode : Prop :=
  ∀ (c : Code) (i : Instr), decode c = .ok i → encode i = c

/-- Words written out from the table decode to their rows, and one reserved key and one alias do not decode (R51, R55, R56). -/
def Obligations.WrittenWordsDecode : Prop :=
  decode (.stage 0b00000) = .ok .lenchk ∧ decode (.stage 0b10010) = .ok .pack ∧ decode (.stage 0b10011) = .ok .parse ∧
    decode (.bitmap 0b0000000010101010) = .ok .shape1111 ∧ decode (.bitmap 0b0000101010001000) = .ok .shape3311 ∧
    decode (.stage 0b10101) = .error (.noStageRow 0b10101) ∧
    decode (.bitmap 0b0000001100100010) = .error (.illegalBitmap 0b0000001100100010)

/-- A step runs the decoded instruction: when what is fetched is a code that decodes to `i`, the step is `exec i` in the state
that the fetch gives. -/
def Obligations.StepRunsDecoded : Prop :=
  ∀ (s t : State) (c : Code) (i : Instr), fetch s = .code c t → decode c = .ok i → step s = exec i t

/-- The stage index selects the operation: at `stage` = o the step is the operation of ordinal o, in the same state (R15, R56).
At stage 4 this is so when the bitmap is not read by the rows (log entry 5). -/
def Obligations.StageSelectsOperation : Prop :=
  ∀ (s : State) (ord : Fin 19) (i : Instr), s.txn.stage = .run ord → (ord = 4 → s.byDecoder = false) →
    encode i = .stage (BitVec.ofNat 5 ord.val) → step s = exec i s

/-- At stage 4, read by the `SHAPE` rows, the bitmap selects its row, and a bitmap of no row rejects the input, by G1 or by G2
(R55, R57). -/
def Obligations.BitmapSelectsShape : Prop :=
  ∀ (s : State) (bm : BitVec 16), s.txn.stage = .run 4 → s.byDecoder = true → s.txn.bm = some bm →
    (∀ i : Instr, encode i = .bitmap bm → step s = exec i s) ∧
      ((∀ i : Instr, encode i ≠ .bitmap bm) →
        ∃ t, step s = .next t ∧ t.txn.stage = .doneReject ∧ t.txn.ok = some false ∧ t.txn.res = some 0)

/-- When no transaction is in progress, a step first drops what a transaction that has ended has left, so that no value exists
and the stage index has none (R22, R131), and then carries out the host's next act, if there is one (R32, R36, R99; how the acts
are listed is the model's choice, log entry 5). -/
def Obligations.HostActsInTurn : Prop :=
  ∀ (s : State), s.Ready →
    (s.requests = [] → step s = .next { s with txn := Txn.empty }) ∧
      (∀ rest, s.requests = .load :: rest → step s = exec .load { s with txn := Txn.empty, requests := rest }) ∧
      (∀ rest, s.requests = .parse :: rest → step s = exec .parse { s with txn := Txn.empty, requests := rest }) ∧
      (∀ rest, s.requests = .present :: rest →
        step s = .next { s with requests := rest, txn := Txn.fresh (Memory.lanes s.win) s.length }) ∧
      (∀ bytes rest, s.requests = .buffer bytes :: rest →
        step s = .next { s with
          txn := Txn.empty, requests := rest, hostBuf := Memory.ofBytes bytes, hostLen := bytes.length }) ∧
      (∀ bus n rest, s.requests = .drive bus n :: rest →
        step s = .next { s with
          txn := Txn.empty, requests := rest, win := Memory.writeFrom s.win 0 (busLanes bus).toList, length := n }) ∧
      (∀ rst v rest, s.requests = .cycle rst v :: rest →
        step s = .next (State.clock { s with txn := Txn.empty, requests := rest } rst v))

/-! ## Tables -/

/-- R47: `PIDROM` holds at each shape's hash code the shape's PatternID, and the sentinel everywhere else. -/
def Obligations.PidromContents : Prop :=
  (∀ sh : Shape, sh.wellFormed = true →
    pidrom (refHash (shapeBitmap sh)) =
      BitVec.ofNat 8 (27 * (sh.l0 - 1) + 9 * (sh.l1 - 1) + 3 * (sh.l2 - 1) + (sh.l3 - 1))) ∧
    ∀ h : Byte, (∀ sh : Shape, sh.wellFormed = true → refHash (shapeBitmap sh) ≠ h) → pidrom h = 0xFF

/-- The indices of a shape's descriptor are below its length, no separator position, pairwise distinct, and all the other
positions (R50's last sentence, which the spec marks as derived). -/
def Obligations.DescriptorCoversText : Prop :=
  ∀ sh : Shape, sh.wellFormed = true →
    (∀ k : Fin 16, (∃ i : Fin 16, (shapeDescriptor sh)[i] = .index k) ↔
      k.val < shapeTotal sh ∧ ∀ g : Fin 4, g.val < 3 → k.val ≠ shapeStart sh g + shapeLen sh g) ∧
    ∀ i j k : Fin 16, (shapeDescriptor sh)[i] = .index k → (shapeDescriptor sh)[j] = .index k → i = j

/-! ## The separator locator -/

/-- R60: `LENCHK` passes when `LEN` ≤ 15 and rejects otherwise, and changes no datapath value but what a rejection sets. -/
def Obligations.LenchkGate : Prop :=
  ∀ (s : State) (n : Nat), s.txn.len = some n →
    (n ≤ 15 → exec .lenchk s = .next { s with txn := { s.txn with g0 := some true, stage := .run 1 } }) ∧
      (15 < n → exec .lenchk s =
        .next { s with txn := { s.txn with g0 := some false, ok := some false, res := some 0, stage := .doneReject } })

/-- R61: `CMPSEP` compares every byte with ".". -/
def Obligations.CmpsepCompares : Prop :=
  ∀ (s : State) (w : Window), s.txn.w = some w →
    ∃ v : Lanes Bool, (∀ i : Fin 16, v[i] = true ↔ w[i] = 0x2E) ∧
      exec .cmpsep s = .next { s with txn := { s.txn with cmp := some v, stage := .run 2 } }

/-- R62: `RAWBM` is the sum over i of CMP[i] 2^i. -/
def Obligations.BitmaskSums : Prop :=
  ∀ (s : State) (cmp : Lanes Bool), s.txn.cmp = some cmp →
    ∃ v : BitVec 16, v.toNat = ∑ i : Fin 16, (if cmp[i] = true then 2 ^ i.val else 0) ∧
      exec .bitmask s = .next { s with txn := { s.txn with rawbm := some v, stage := .run 3 } }

/-- R63: `BM` keeps the bits below `LEN`, has bit `LEN` set, and no bit above it, for `LEN` ≤ 15. -/
def Obligations.LenmaskMasks : Prop :=
  ∀ (s : State) (rawbm : BitVec 16) (n : Nat), s.txn.rawbm = some rawbm → s.txn.len = some n → n ≤ 15 →
    ∃ v : BitVec 16, v = ((rawbm &&& BitVec.ofNat 16 (2 ^ n - 1)) ||| BitVec.ofNat 16 (2 ^ n)) ∧
      (∀ i : Nat, i < 16 → v.getLsbD i = if i < n then rawbm.getLsbD i else decide (i = n)) ∧
      exec .lenmask s = .next { s with txn := { s.txn with bm := some v, stage := .run 4 } }

/-! ## The dispatcher -/

/-- R67: `PROD` = 6639 × `BM` exactly, and `HC` is its bits 20 to 13. -/
def Obligations.HashMultiplies : Prop :=
  ∀ (s : State) (bm : BitVec 16), s.txn.bm = some bm →
    ∃ (prod : BitVec 29) (hc : Byte), prod.toNat = 6639 * bm.toNat ∧ hc.toNat = prod.toNat / 2 ^ 13 % 256 ∧
      exec .hash s = .next { s with txn := { s.txn with prod := some prod, hc := some hc, stage := .run 5 } }

/-- R68: `PIDLOOK` reads `PIDROM[HC]` and passes when it is below 81. That `PID` stays as read when it rejects is the model's
reading (log entry 14). -/
def Obligations.PidlookGate : Prop :=
  ∀ (s : State) (hc : Byte), s.txn.hc = some hc →
    ((pidrom hc).toNat < 81 → exec .pidlook s =
      .next { s with txn := { s.txn with pid := some (pidrom hc), g1 := some true, stage := .run 6 } }) ∧
    (81 ≤ (pidrom hc).toNat → exec .pidlook s =
      .next { s with txn := { s.txn with
        pid := some (pidrom hc), g1 := some false, ok := some false, res := some 0, stage := .doneReject } })

/-- R69: `SHAPECONF` passes when `BM` is the expected bitmap of the pattern. -/
def Obligations.ShapeconfGate : Prop :=
  ∀ (s : State) (bm : BitVec 16) (pid : Byte), s.txn.bm = some bm → s.txn.pid = some pid → pid.toNat < 81 →
    (bm = shapeBitmap (pidShape pid.toNat) →
      exec .shapeconf s = .next { s with txn := { s.txn with g2 := some true, stage := .run 7 } }) ∧
    (bm ≠ shapeBitmap (pidShape pid.toNat) → exec .shapeconf s =
      .next { s with txn := { s.txn with g2 := some false, ok := some false, res := some 0, stage := .doneReject } })

/-- R70: `DESCSEL` reads the 16 entries of the pattern's descriptor. -/
def Obligations.DescselReads : Prop :=
  ∀ (s : State) (pid : Byte), s.txn.pid = some pid → pid.toNat < 81 →
    exec .descsel s =
      .next { s with txn := { s.txn with desc := some (shapeDescriptor (pidShape pid.toNat)), stage := .run 8 } }

/-- The model's choice (log entries 6 and 7): where the spec gives an operation no value, in states that no chain reaches, it
runs with a free value: `LENMASK` for a length above 15; `SHAPECONF` and `DESCSEL` for a PatternID of 81 or more. -/
def Obligations.BeyondDomainGoesOn : Prop :=
  ∀ s : State,
    (∀ (rawbm : BitVec 16) (n : Nat), s.txn.rawbm = some rawbm → s.txn.len = some n → 15 < n →
      ∃ v : BitVec 16, exec .lenmask s = .next { s with txn := { s.txn with bm := some v, stage := .run 4 } }) ∧
    (∀ (bm : BitVec 16) (pid : Byte), s.txn.bm = some bm → s.txn.pid = some pid → 81 ≤ pid.toNat →
      exec .shapeconf s = .next { s with txn := { s.txn with g2 := some true, stage := .run 7 } } ∨
      exec .shapeconf s =
        .next { s with txn := { s.txn with g2 := some false, ok := some false, res := some 0, stage := .doneReject } }) ∧
    (∀ pid : Byte, s.txn.pid = some pid → 81 ≤ pid.toNat →
      ∃ d : Descriptor, exec .descsel s = .next { s with txn := { s.txn with desc := some d, stage := .run 8 } })

/-! ## The gatherer and the validators -/

/-- R75: each lane takes its source byte, or 0x00. -/
def Obligations.GatherLanes : Prop :=
  ∀ (s : State) (w : Window) (d : Descriptor), s.txn.w = some w → s.txn.desc = some d →
    ∃ v : Lanes Byte, (∀ i k : Fin 16, d[i] = .index k → v[i] = w[k]) ∧ (∀ i : Fin 16, d[i] = .miss → v[i] = 0x00) ∧
      exec .gather s = .next { s with txn := { s.txn with gl := some v, stage := .run 9 } }

/-- `LZCHK` rejects exactly when the lane under check of some group holds "0" (R79). That `LZMASK` stays as formed when it rejects is
the model's reading (log entry 14). -/
def Obligations.LzchkGate : Prop :=
  ∀ (s : State) (gl : Lanes Byte) (d : Descriptor), s.txn.gl = some gl → s.txn.desc = some d →
    ∃ v : Lanes Bool, (∀ i : Fin 16, v[i] = true ↔ ∃ g, checkedLane d g = some i) ∧
      ((∀ g i, checkedLane d g = some i → gl[i] ≠ 0x30) →
        exec .lzchk s = .next { s with txn := { s.txn with lzmask := some v, g3 := some true, stage := .run 10 } }) ∧
      ((∃ g i, checkedLane d g = some i ∧ gl[i] = 0x30) → exec .lzchk s =
        .next { s with txn := { s.txn with
          lzmask := some v, g3 := some false, ok := some false, res := some 0, stage := .doneReject } })

/-- R81: `CANON` puts "0" in every miss lane and leaves the others. -/
def Obligations.CanonLanes : Prop :=
  ∀ (s : State) (gl : Lanes Byte) (d : Descriptor), s.txn.gl = some gl → s.txn.desc = some d →
    ∃ v : Lanes Byte, (∀ i : Fin 16, v[i] = if d[i] = .miss then 0x30 else gl[i]) ∧
      exec .canon s = .next { s with txn := { s.txn with cl := some v, stage := .run 11 } }

/-- R82: `SUBZERO` subtracts "0" from every lane, modulo 256. -/
def Obligations.SubzeroLanes : Prop :=
  ∀ (s : State) (cl : Lanes Byte), s.txn.cl = some cl →
    ∃ v : Lanes Byte, (∀ i : Fin 16, v[i].toNat = (cl[i].toNat + 0xD0) % 256) ∧
      exec .subzero s = .next { s with txn := { s.txn with dl := some v, stage := .run 12 } }

/-- R83: `DIGCHK` rejects when any of the 16 lanes exceeds 9. -/
def Obligations.DigchkGate : Prop :=
  ∀ (s : State) (dl : Lanes Byte), s.txn.dl = some dl →
    ((∀ i : Fin 16, dl[i].toNat ≤ 9) →
      exec .digchk s = .next { s with txn := { s.txn with g4 := some true, stage := .run 13 } }) ∧
    ((∃ i : Fin 16, 9 < dl[i].toNat) → exec .digchk s =
      .next { s with txn := { s.txn with g4 := some false, ok := some false, res := some 0, stage := .doneReject } })

/-! ## The accumulator and the packer -/

/-- R86: each lane times the weight of its position. -/
def Obligations.WmulLanes : Prop :=
  ∀ (s : State) (dl : Lanes Byte), s.txn.dl = some dl →
    ∃ v : Lanes (BitVec 16),
      (∀ i : Fin 16,
        v[i].toNat = dl[i].toNat * (#v[1, 10, 1, 10, 1, 10, 1, 10, 100, 0, 100, 0, 100, 0, 100, 0] : Lanes Nat)[i]) ∧
      exec .wmul s = .next { s with txn := { s.txn with p := some v, stage := .run 14 } }

/-- R87: adjacent lanes are added, in 16 bits. -/
def Obligations.PairaddLanes : Prop :=
  ∀ (s : State) (p : Lanes (BitVec 16)), s.txn.p = some p →
    ∃ v : Vector (BitVec 16) 8,
      (∀ j : Fin 8, v[j].toNat = (p[2 * j.val].toNat + p[2 * j.val + 1].toNat) % 65536) ∧
      exec .pairadd s = .next { s with txn := { s.txn with ps := some v, stage := .run 15 } }

/-- R88: the low-digits pair and the hundreds pair of each group are added, in 16 bits. -/
def Obligations.FoldLanes : Prop :=
  ∀ (s : State) (ps : Vector (BitVec 16) 8), s.txn.ps = some ps →
    ∃ v : Vector (BitVec 16) 4,
      (∀ g : Fin 4, v[g].toNat = (ps[g.val].toNat + ps[g.val + 4].toNat) % 65536) ∧
      exec .fold s = .next { s with txn := { s.txn with s := some v, stage := .run 16 } }

/-- The three operations of the accumulator give, for every `DL`, the place-value sums, without wrapping (R90(a), (b), which the
spec marks as derived). -/
def Obligations.AccumulatorSums : Prop :=
  ∀ (s : State) (dl : Lanes Byte), s.txn.dl = some dl →
    ∃ t1 t2 t3 v, exec .wmul s = .next t1 ∧ exec .pairadd t1 = .next t2 ∧ exec .fold t2 = .next t3 ∧ t3.txn.s = some v ∧
      ∀ g : Fin 4,
        v[g].toNat = dl[2 * g.val].toNat + 10 * dl[2 * g.val + 1].toNat + 100 * dl[8 + 2 * g.val].toNat

/-- R89: `OVFCHK` rejects when any of the four sums exceeds 255. -/
def Obligations.OvfchkGate : Prop :=
  ∀ (s : State) (v : Vector (BitVec 16) 4), s.txn.s = some v →
    ((∀ g : Fin 4, v[g].toNat ≤ 255) →
      exec .ovfchk s = .next { s with txn := { s.txn with g5 := some true, stage := .run 17 } }) ∧
    ((∃ g : Fin 4, 255 < v[g].toNat) → exec .ovfchk s =
      .next { s with txn := { s.txn with g5 := some false, ok := some false, res := some 0, stage := .doneReject } })

/-- R93: unsigned saturation to a byte. -/
def Obligations.NarrowSaturates : Prop :=
  ∀ (s : State) (v : Vector (BitVec 16) 4), s.txn.s = some v →
    ∃ b : Vector Byte 4, (∀ g : Fin 4, b[g].toNat = min v[g].toNat 255) ∧
      exec .narrow s = .next { s with txn := { s.txn with b := some b, stage := .run 18 } }

/-- R94: the four bytes are concatenated with group 0 lowest, `OK` becomes 1, and the transaction ends in `DONE_OK`. -/
def Obligations.PackConcatenates : Prop :=
  ∀ (s : State) (b : Vector Byte 4), s.txn.b = some b →
    ∃ v : BitVec 32,
      v.toNat = b[0].toNat + 256 * b[1].toNat + 65536 * b[2].toNat + 16777216 * b[3].toNat ∧
      (∀ g : Fin 4, v.extractLsb' (8 * g.val) 8 = b[g]) ∧
      exec .pack s = .next { s with txn := { s.txn with res := some v, ok := some true, stage := .doneOk } }

/-! ## Rules about every operation -/

/-- No operation reads a value that has none (R14; R9 calls such a read "not possible"): in a state that no chain reaches, where
its operand has not been written, each operation stops, naming the value. -/
def Obligations.UnwrittenOperandStops : Prop :=
  ∀ s : State,
    (s.txn.len = none → exec .lenchk s = .fault (.unwritten .len)) ∧
    (s.txn.w = none → exec .cmpsep s = .fault (.unwritten .w) ∧ exec .gather s = .fault (.unwritten .w)) ∧
    (s.txn.cmp = none → exec .bitmask s = .fault (.unwritten .cmp)) ∧
    (s.txn.rawbm = none → exec .lenmask s = .fault (.unwritten .rawbm)) ∧
    (∀ x, s.txn.rawbm = some x → s.txn.len = none → exec .lenmask s = .fault (.unwritten .len)) ∧
    (s.txn.bm = none → exec .hash s = .fault (.unwritten .bm) ∧ exec .shapeconf s = .fault (.unwritten .bm)) ∧
    (s.txn.hc = none → exec .pidlook s = .fault (.unwritten .hc)) ∧
    (∀ x, s.txn.bm = some x → s.txn.pid = none → exec .shapeconf s = .fault (.unwritten .pid)) ∧
    (s.txn.pid = none → exec .descsel s = .fault (.unwritten .pid)) ∧
    (∀ x, s.txn.w = some x → s.txn.desc = none → exec .gather s = .fault (.unwritten .desc)) ∧
    (s.txn.gl = none → exec .lzchk s = .fault (.unwritten .gl) ∧ exec .canon s = .fault (.unwritten .gl)) ∧
    (∀ x, s.txn.gl = some x → s.txn.desc = none →
      exec .lzchk s = .fault (.unwritten .desc) ∧ exec .canon s = .fault (.unwritten .desc)) ∧
    (s.txn.cl = none → exec .subzero s = .fault (.unwritten .cl)) ∧
    (s.txn.dl = none → exec .digchk s = .fault (.unwritten .dl) ∧ exec .wmul s = .fault (.unwritten .dl)) ∧
    (s.txn.p = none → exec .pairadd s = .fault (.unwritten .p)) ∧
    (s.txn.ps = none → exec .fold s = .fault (.unwritten .ps)) ∧
    (s.txn.s = none → exec .ovfchk s = .fault (.unwritten .s) ∧ exec .narrow s = .fault (.unwritten .s)) ∧
    (s.txn.b = none → exec .pack s = .fault (.unwritten .b))

/-- Only the six gates reject (and `PARSE`, which contains them), and a rejection leaves `OK` = 0 and `RES` = 0 (R112, R115). The
failing gate has produced nothing: every datapath value of the rejected transaction was there before (R116; what a gate forms
before its test is no product of it, log entry 14). -/
def Obligations.OnlyGatesReject : Prop :=
  ∀ (i : Instr) (s t : State), s.txn.stage ≠ .doneReject → exec i s = .next t → t.txn.stage = .doneReject →
    i ∈ [Instr.lenchk, .pidlook, .shapeconf, .lzchk, .digchk, .ovfchk, .parse] ∧ t.txn.ok = some false ∧ t.txn.res = some 0 ∧
      (i ≠ .parse → t.txn.produced.Within s.txn)

/-- The core writes no space: every operation but `LOAD` changes the transaction alone, so that every byte of `WIN` and of
`HOSTBUF`, the ports, the ranks and the host's acts stay (R29). -/
def Obligations.CoreWritesNoSpace : Prop :=
  ∀ (i : Instr) (s t : State), i ≠ .load → exec i s = .next t → t = { s with txn := t.txn }

/-- Nothing about the block can be changed after it is built: no step changes the port width, the number of ranks, or how stage 4
reads the bitmap (R7, R17). -/
def Obligations.BuildNeverChanges : Prop :=
  ∀ s t : State, step s = .next t →
    t.lenW = s.lenW ∧ t.pipe.length = s.pipe.length ∧ t.byDecoder = s.byDecoder

/-! ## `LOAD` -/

/-- R32: `LOAD` fills the 16 bytes of `WIN`, from `HOSTBUF` below n and below 15 and with 0x00 elsewhere, sets `LEN` to
min(n, 2^LEN_W - 1), and changes nothing else. -/
def Obligations.LoadFillsWindow : Prop :=
  ∀ s : State, Memory.wf 16 s.win = true →
    ∃ m : Memory,
      (∀ i : Nat, i < 16 →
        Memory.read m i = if i < s.hostLen ∧ i < 15 then Memory.read s.hostBuf i else 0x00) ∧
      (∀ a : Nat, 16 ≤ a → Memory.read m a = Memory.read s.win a) ∧
      exec .load s = .next { s with win := m, length := min s.hostLen (2 ^ s.lenW - 1) }

/-- `LOAD` never reads `HOSTBUF[i]` for i ≥ n or i ≥ 15: buffers that agree below both give the same window and length (R32,
R134). -/
def Obligations.LoadNeverOverReads : Prop :=
  ∀ (s : State) (buf : Memory), (∀ i, i < s.hostLen → i < 15 → Memory.read buf i = Memory.read s.hostBuf i) →
    ∃ t : State, exec .load s = .next t ∧ exec .load { s with hostBuf := buf } = .next { t with hostBuf := buf }

/-- R33: an input longer than 15 bytes is rejected, not truncated, at every port width that R7 allows. -/
def Obligations.LongInputRejected : Prop :=
  ∀ s : State, 5 ≤ s.lenW → 15 < s.hostLen →
    ∃ t u : State, exec .load s = .next t ∧ exec .parse t = .next u ∧
      u.txn.stage = .doneReject ∧ u.txn.ok = some false ∧ u.txn.res = some 0 ∧ u.txn.cause = some .len

/-! ## The 81 shapes -/

/-- R57: a `SHAPE` row selects its descriptor, with its hash code (R45) and PatternID (R46), both shape gates passed; nothing
else changes. -/
def Obligations.ShapeRowSelects : Prop :=
  ∀ (i : Instr) (sh : Shape) (s : State), i.shape? = some sh →
    exec i s = .next { s with txn := { s.txn with
      prod := some (BitVec.ofNat 29 (6639 * (shapeBitmap sh).toNat)),
      hc := some (refHash (shapeBitmap sh)),
      pid := some (BitVec.ofNat 8 (27 * (sh.l0 - 1) + 9 * (sh.l1 - 1) + 3 * (sh.l2 - 1) + (sh.l3 - 1))),
      g1 := some true, g2 := some true, desc := some (shapeDescriptor sh), stage := .run 8 } }

/-- Reading the bitmap by the `SHAPE` rows is the same as running the four operations of the dispatcher: for every bitmap, legal
or not, the two leave the same state (R55, R57, R67 to R70). -/
def Obligations.RowsAgreeWithHash : Prop :=
  ∀ (s : State) (bm : BitVec 16), s.txn.bm = some bm →
    (match decode (.bitmap bm) with
      | .ok i => exec i s
      | .error e => undecoded e s) =
    runOps [exec .hash, exec .pidlook, exec .shapeconf, exec .descsel] s

/-! ## `PARSE` and the chain -/

/-- R97: `PARSE` runs the chain on the presented window and length, and every value it leaves is that of the closed form; nothing
but the transaction changes. That a failing G1 leaves `PID`, and a failing G3 `LZMASK`, is the model's reading (log entry 14). -/
def Obligations.ParseIsClosedForm : Prop :=
  ∀ s : State,
    exec .parse s =
      .next { s with txn := refTxn (Memory.lanes s.win) s.length (refStop (Memory.lanes s.win) s.length) }

/-- The chain with its values threaded as function results gives the closed form's result, or the cause of the first gate that
fails (R97, R111, R114). -/
def Obligations.OutcomeIsClosedForm : Prop :=
  ∀ (w : Window) (len : Nat),
    parseOutcome w len =
      match refCause w len with
      | none => .ok (refResult w len)
      | some c => .error c

/-- R98: a transaction, run operation by operation, reaches one of the two terminal states within 19 steps, with no other
outcome, and leaves what `PARSE` leaves (`PID` and `LZMASK` after a rejection by their own gate: log entry 14). A transaction whose
bitmap is read by the `SHAPE` rows is left out: `RowsAgreeWithHash` is about those. -/
def Obligations.TransactionTerminates : Prop :=
  ∀ (s : State) (w : Window) (len : Nat), s.txn = Txn.fresh w len → s.byDecoder = false →
    refStop w len ≤ 19 ∧
      Host.Core.run core (refStop w len) s = .next { s with txn := refTxn w len (refStop w len) } ∧
      ((refTxn w len (refStop w len)).stage = .doneOk ∧ (refTxn w len (refStop w len)).ok = some true ∧
          (refTxn w len (refStop w len)).res = some (refResult w len) ∨
        (refTxn w len (refStop w len)).stage = .doneReject ∧ (refTxn w len (refStop w len)).ok = some false ∧
          (refTxn w len (refStop w len)).res = some 0)

/-- When G0, G1 and G2 pass, the descriptor's indices are exactly the characters below the length that are not "." (R64(c),
R76(a), (b), which the spec marks as derived). -/
def Obligations.ConfirmedShapeGathersText : Prop :=
  ∀ (w : Window) (len : Nat),
    refGate w len .len = true → refGate w len .shapeHash = true → refGate w len .shapeConfirm = true →
    ∀ k : Fin 16, (∃ i : Fin 16, (refDesc w len)[i] = .index k) ↔ k.val < len ∧ w[k] ≠ 0x2E

/-- `PARSE` accepts the language of R40 and no other, with the value of the four groups (R100, which the spec marks as
derived). -/
def Obligations.ParseAcceptsLiterals : Prop :=
  ∀ (s : State) (v : BitVec 32),
    (∃ t, exec .parse s = .next t ∧ t.txn.ok = some true ∧ t.txn.res = some v) ↔
      s.length ≤ 15 ∧ ∃ a b c d, IsLiteral ((Memory.lanes s.win).toList.take s.length) a b c d ∧ v = resultWord a b c d

/-- Tail independence: what stands in the window at or beyond the length does not matter; and for a length of 16 or more nothing
in the window does (R101, which the spec marks as derived). -/
def Obligations.TailIndependence : Prop :=
  ∀ s s' : State, s.length = s'.length →
    (∀ i, i < s.length → i < 16 → s.length ≤ 15 → Memory.read s.win i = Memory.read s'.win i) →
    ∃ t t' : State, exec .parse s = .next t ∧ exec .parse s' = .next t' ∧
      t.txn.ok = t'.txn.ok ∧ t.txn.res = t'.txn.res ∧ (16 ≤ s.length → t.txn.ok = some false ∧ t.txn.res = some 0)

/-- R99: the public operation, `PARSE` after `LOAD`, on any byte sequence of any length, in three steps of the machine: present
with the value of a valid literal, absent otherwise. -/
def Obligations.PublicOperation : Prop :=
  ∀ (s : State) (bytes : List Byte), s.Ready → Memory.wf 16 s.win = true → 5 ≤ s.lenW →
    s.requests = [.buffer bytes, .load, .parse] →
    ∃ t : State, Host.Core.run core 3 s = .next t ∧
      ((∃ a b c d, IsLiteral bytes a b c d ∧ t.txn.ok = some true ∧ t.txn.res = some (resultWord a b c d)) ∨
        (¬∃ a b c d, IsLiteral bytes a b c d) ∧ t.txn.ok = some false ∧ t.txn.res = some 0)

/-- Round trip: the text of every 32-bit value parses to that value (R103, which the spec marks as derived). -/
def Obligations.RoundTrip : Prop :=
  ∀ (s : State) (v : BitVec 32), s.Ready → Memory.wf 16 s.win = true → 5 ≤ s.lenW →
    s.requests = [.buffer (addressText v), .load, .parse] →
    ∃ t : State, Host.Core.run core 3 s = .next t ∧ t.txn.ok = some true ∧ t.txn.res = some v

/-- R104: evaluating every operation on every transaction, whatever the operations give outside their domains, agrees with the
chain at the ports. -/
def Obligations.ParallelAgrees : Prop :=
  ∀ (w : Window) (len : Nat),
    parallelPorts w len =
      match parseOutcome w len with
      | .ok v => (true, v)
      | .error _ => (false, 0)

/-- The cheaper confirmation G2' gives the same outputs on every input (R73, which the spec marks as derived). -/
def Obligations.LengthConfirmationAgrees : Prop :=
  ∀ (w : Window) (len : Nat), outcomeValue (parseByLength w len) = outcomeValue (parseOutcome w len)

/-! ## The invariant of the machine -/

/-- The machine right after reset has the invariant, for every port width R7 allows and every latency; no transaction exists and
no rank is valid (R22). -/
def Obligations.ResetHasInvariant : Prop :=
  State.reset.Inv ∧
    ∀ lenW lat : Nat, 5 ≤ lenW →
      (State.resetWith lenW lat).Inv ∧ (State.resetWith lenW lat).txn = Txn.empty ∧
        (State.resetWith lenW lat).pipe.length = lat ∧ ∀ r ∈ (State.resetWith lenW lat).pipe, r.valid = false

/-- Every step keeps the invariant: from a transaction on the chain, every value it leaves is the closed form's, every value not
yet due does not exist, and both written spaces stay canonical (R13 to R16, R25, R97, R115, R116; `PID` and `LZMASK` after a
rejection by their own gate: log entry 14). -/
def Obligations.StepKeepsInvariant : Prop :=
  ∀ s t : State, s.Inv → step s = .next t → t.Inv

/-- From a state with the invariant a step always answers a next state: no read of an unwritten value, no refusal (R14, R98). -/
def Obligations.InvariantNeverStops : Prop :=
  ∀ s : State, s.Inv → ∃ t : State, step s = .next t

/-- When a transaction has ended, `OK` is the conjunction of the six flags, a gate that was not evaluated counting as not passed
(R16). -/
def Obligations.OkIsConjunction : Prop :=
  ∀ s : State, s.Inv → (s.txn.stage = .doneOk ∨ s.txn.stage = .doneReject) →
    s.txn.ok = some (decide (s.txn.g0 = some true ∧ s.txn.g1 = some true ∧ s.txn.g2 = some true ∧ s.txn.g3 = some true ∧
      s.txn.g4 = some true ∧ s.txn.g5 = some true))

/-- Each datapath value is written at most once per transaction: while one is in progress, a step changes no value that exists
(R13). -/
def Obligations.WrittenOnce : Prop :=
  ∀ (s t : State) (ord : Fin 19), s.Inv → s.txn.stage = .run ord → step s = .next t →
    t.txn.w = s.txn.w ∧ t.txn.len = s.txn.len ∧ (∀ v, s.txn.cmp = some v → t.txn.cmp = some v) ∧
    (∀ v, s.txn.rawbm = some v → t.txn.rawbm = some v) ∧ (∀ v, s.txn.bm = some v → t.txn.bm = some v) ∧
    (∀ v, s.txn.prod = some v → t.txn.prod = some v) ∧ (∀ v, s.txn.hc = some v → t.txn.hc = some v) ∧
    (∀ v, s.txn.pid = some v → t.txn.pid = some v) ∧ (∀ v, s.txn.desc = some v → t.txn.desc = some v) ∧
    (∀ v, s.txn.gl = some v → t.txn.gl = some v) ∧ (∀ v, s.txn.lzmask = some v → t.txn.lzmask = some v) ∧
    (∀ v, s.txn.cl = some v → t.txn.cl = some v) ∧ (∀ v, s.txn.dl = some v → t.txn.dl = some v) ∧
    (∀ v, s.txn.p = some v → t.txn.p = some v) ∧ (∀ v, s.txn.ps = some v → t.txn.ps = some v) ∧
    (∀ v, s.txn.s = some v → t.txn.s = some v) ∧ (∀ v, s.txn.b = some v → t.txn.b = some v) ∧
    (∀ v, s.txn.g0 = some v → t.txn.g0 = some v) ∧ (∀ v, s.txn.g1 = some v → t.txn.g1 = some v) ∧
    (∀ v, s.txn.g2 = some v → t.txn.g2 = some v) ∧ (∀ v, s.txn.g3 = some v → t.txn.g3 = some v) ∧
    (∀ v, s.txn.g4 = some v → t.txn.g4 = some v) ∧ (∀ v, s.txn.g5 = some v → t.txn.g5 = some v) ∧
    s.txn.ok = none ∧ s.txn.res = none

/-- The stage index never goes back: a step of a transaction in progress goes on to a later stage, or ends in `DONE_OK` from
`PACK`, or in `DONE_REJECT` from a gate, or from stage 4 when the bitmap is read by the rows (R15). -/
def Obligations.StageNeverDecreases : Prop :=
  ∀ (s t : State) (ord : Fin 19), s.txn.stage = .run ord → step s = .next t →
    (∃ ord' : Fin 19, t.txn.stage = .run ord' ∧ ord < ord') ∨ (t.txn.stage = .doneOk ∧ ord = 18) ∨
      (t.txn.stage = .doneReject ∧ (ord ∈ [0, 5, 6, 9, 12, 16] ∨ ord = 4 ∧ s.byDecoder = true))

/-- A transaction in progress cannot be interrupted: its step neither reads nor changes the host's acts, the ports, the caller's
buffer or the ranks (R118, R30). -/
def Obligations.NotInterruptible : Prop :=
  ∀ (s t : State) (ord : Fin 19) (r : List Request) (win : Memory) (n : Nat), s.txn.stage = .run ord → step s = .next t →
    t = { s with txn := t.txn } ∧
      step { s with requests := r, win := win, length := n } = .next { t with requests := r, win := win, length := n }

/-! ## The ports and the clock -/

/-- For `LAT` = 0 the ports are `PARSE` of what is on the input ports: `ok` and `result` are what the chain leaves in `OK` and
`RES`, and there is no `out_valid` (R23, R105). -/
def Obligations.CombinationalPorts : Prop :=
  ∀ s t : State, s.pipe = [] → exec .parse s = .next t →
    t.txn.ok = some s.portOk ∧ t.txn.res = some s.portResult ∧ s.portOutValid = none

/-- `result` is 0 whenever `ok` is 0, and both are 0 while `out_valid` is 0 (R22, R23, R115). -/
def Obligations.AbsentResultIsZero : Prop :=
  ∀ s : State, (s.portOk = false → s.portResult = 0) ∧
    (s.portOutValid = some false → s.portOk = false ∧ s.portResult = 0)

/-- `LAT` cycles later: in a run of clock cycles, whatever came before, what a cycle presented is at the outputs exactly `LAT`
cycles later, and nothing is there for a cycle that presented nothing or had `rst` = 1, provided `rst` = 0 since (R105, R133). -/
def Obligations.ClockedDelivery : Prop :=
  ∀ (s : State) (before after : List CycleIn) (c : CycleIn), s.Ready → Memory.wf 16 s.win = true →
    s.requests = cycleRequests (before ++ c :: after) → s.pipe.length = after.length + 1 → (∀ x ∈ after, x.rst = false) →
    ∃ t : State, Host.Core.run core (2 * (before.length + 1 + after.length)) s = .next t ∧
      t.portOutValid = some (c.inValid && !c.rst) ∧
      t.portOutcome = if c.inValid && !c.rst then outcomeValue (parseOutcome (busLanes c.window) c.length) else none

/-- R130: transactions in flight when `rst` = 1 are discarded and never appear at the outputs. -/
def Obligations.ResetDiscardsInFlight : Prop :=
  ∀ (s : State) (before after : List CycleIn) (c : CycleIn), s.Ready →
    s.requests = cycleRequests (before ++ c :: after) → s.pipe.length = after.length + 1 → (∃ x ∈ c :: after, x.rst = true) →
    ∃ t : State, Host.Core.run core (2 * (before.length + 1 + after.length)) s = .next t ∧
      t.portOutValid = some false ∧ t.portOk = false ∧ t.portResult = 0
end

