-- ==== Sys2Proof/Laws/Memory.lean ====
section
/-!
SUPPORT. The laws of memory: a write is read back, leaves every other address alone, and keeps the canonical form; so do the
writes of a sequence of bytes.
-/

namespace Sys2Proof.Machine

open Sys2Proof

theorem Memory.wfFrom_cons (bound low : Nat) (c : Host.Cell) (cs : Memory) :
    Memory.wfFrom bound low (c :: cs) = true ↔
      low ≤ c.1 ∧ c.1 < bound ∧ c.2 ≠ 0x00 ∧ Memory.wfFrom bound (c.1 + 1) cs = true := by
  simp [Memory.wfFrom, and_assoc]

theorem Memory.wfFrom_mono {bound low low' : Nat} {m : Memory} (h : Memory.wfFrom bound low m = true) (hl : low' ≤ low) :
    Memory.wfFrom bound low' m = true := by
  cases m with
  | nil => rfl
  | cons c cs =>
    rw [Memory.wfFrom_cons] at h ⊢
    exact ⟨hl.trans h.1, h.2⟩

/-- An address below the first listed one reads 0x00. -/
theorem Memory.read_below {bound low a : Nat} {m : Memory} (h : Memory.wfFrom bound low m = true) (ha : a < low) :
    Memory.read m a = 0x00 := by
  induction m generalizing low with
  | nil => rfl
  | cons c cs ih =>
    rw [Memory.wfFrom_cons] at h
    rw [Memory.read, if_neg (by omega)]
    exact ih h.2.2.2 (by omega)

theorem Memory.wfFrom_write {bound low a : Nat} {b : Byte} {m : Memory} (h : Memory.wfFrom bound low m = true)
    (hl : low ≤ a) (hb : a < bound) : Memory.wfFrom bound low (Memory.write m a b) = true := by
  induction m generalizing low with
  | nil =>
    rw [Memory.write]
    split
    · rfl
    · exact (Memory.wfFrom_cons ..).2 ⟨hl, hb, ‹_›, rfl⟩
  | cons c cs ih =>
    have hc := (Memory.wfFrom_cons ..).1 h
    rw [Memory.write]
    split
    · split
      · exact h
      · exact (Memory.wfFrom_cons ..).2
          ⟨hl, hb, ‹_›, (Memory.wfFrom_cons ..).2 ⟨by omega, hc.2.1, hc.2.2.1, hc.2.2.2⟩⟩
    · split
      · split
        · exact Memory.wfFrom_mono hc.2.2.2 (by omega)
        · subst a
          exact (Memory.wfFrom_cons ..).2 ⟨hl, hb, ‹_›, hc.2.2.2⟩
      · exact (Memory.wfFrom_cons ..).2 ⟨hc.1, hc.2.1, hc.2.2.1, ih hc.2.2.2 (by omega)⟩

/-- A write within the space keeps the canonical form. -/
theorem Memory.wf_write {bound a : Nat} {b : Byte} {m : Memory} (h : Memory.wf bound m = true) (ha : a < bound) :
    Memory.wf bound (Memory.write m a b) = true :=
  Memory.wfFrom_write h (Nat.zero_le a) ha

/-- In a canonical memory, reading after a write gives the written byte at its address and the old byte elsewhere. -/
theorem Memory.read_write_from {bound low a : Nat} {b : Byte} {m : Memory} (h : Memory.wfFrom bound low m = true) (x : Nat) :
    Memory.read (Memory.write m a b) x = if x = a then b else Memory.read m x := by
  induction m generalizing low with
  | nil =>
    rw [Memory.write]
    split
    · rename_i hb
      by_cases hx : x = a
      · rw [if_pos hx, Memory.read, hb]
      · rw [if_neg hx]
    · simp only [Memory.read]
      by_cases hx : x = a
      · rw [if_pos hx.symm, if_pos hx]
      · rw [if_neg (Ne.symm hx), if_neg hx]
  | cons c cs ih =>
    have hc := (Memory.wfFrom_cons ..).1 h
    have below : ∀ y, y < c.1 → Memory.read (c :: cs) y = 0x00 := fun y hy =>
      Memory.read_below ((Memory.wfFrom_cons bound c.1 c cs).2 ⟨le_refl _, hc.2⟩) hy
    rw [Memory.write]
    split
    · rename_i hlt
      split
      · rename_i hb
        by_cases hx : x = a
        · rw [if_pos hx, hx, below a hlt, hb]
        · rw [if_neg hx]
      · rw [Memory.read]
        by_cases hx : x = a
        · rw [if_pos hx.symm, if_pos hx]
        · rw [if_neg (Ne.symm hx), if_neg hx]
    · split
      · rename_i _ heq
        have tail : Memory.read cs a = 0x00 := Memory.read_below hc.2.2.2 (by omega)
        split
        · rename_i hb
          by_cases hx : x = a
          · rw [if_pos hx, hx, tail, hb]
          · rw [if_neg hx, Memory.read, if_neg (by omega)]
        · by_cases hx : x = a
          · rw [Memory.read, if_pos hx.symm, if_pos hx]
          · rw [Memory.read, if_neg (Ne.symm hx), if_neg hx, Memory.read, if_neg (by omega)]
      · rw [Memory.read, Memory.read]
        split
        · rename_i h1 h2 h3
          rw [if_neg (by omega)]
        · exact ih hc.2.2.2

/-- A write is read back. -/
theorem Memory.read_write_same {bound a : Nat} {b : Byte} {m : Memory} (h : Memory.wf bound m = true) :
    Memory.read (Memory.write m a b) a = b := by
  rw [Memory.read_write_from h, if_pos rfl]

/-- A write leaves every other address alone. -/
theorem Memory.read_write_other {bound a x : Nat} {b : Byte} {m : Memory} (h : Memory.wf bound m = true) (hx : x ≠ a) :
    Memory.read (Memory.write m a b) x = Memory.read m x := by
  rw [Memory.read_write_from h, if_neg hx]

/-- Writing a sequence within the space keeps the canonical form. -/
theorem Memory.wf_writeFrom {bound : Nat} (bytes : List Byte) {m : Memory} {a : Nat} (h : Memory.wf bound m = true)
    (ha : a + bytes.length ≤ bound) : Memory.wf bound (Memory.writeFrom m a bytes) = true := by
  induction bytes generalizing m a with
  | nil => exact h
  | cons b bs ih =>
    simp only [List.length_cons] at ha
    exact ih (Memory.wf_write h (by omega)) (by omega)

/-- Reading after a sequence was written at `a`: the sequence from `a` on, the old bytes elsewhere. -/
theorem Memory.read_writeFrom {bound : Nat} (bytes : List Byte) {m : Memory} {a : Nat} (h : Memory.wf bound m = true)
    (ha : a + bytes.length ≤ bound) (x : Nat) :
    Memory.read (Memory.writeFrom m a bytes) x =
      if a ≤ x ∧ x < a + bytes.length then bytes.getD (x - a) 0x00 else Memory.read m x := by
  induction bytes generalizing m a with
  | nil => simp [Memory.writeFrom]
  | cons b bs ih =>
    simp only [List.length_cons] at ha
    rw [Memory.writeFrom, ih (Memory.wf_write h (by omega)) (by omega), Memory.read_write_from h]
    by_cases hx : x = a
    · subst x; simp
    · by_cases hin : a + 1 ≤ x ∧ x < a + 1 + bs.length
      · rw [if_pos hin, if_pos (by simp; omega)]
        obtain ⟨k, rfl⟩ : ∃ k, x = a + 1 + k := ⟨x - (a + 1), by omega⟩
        have e1 : a + 1 + k - (a + 1) = k := by omega
        have e2 : a + 1 + k - a = k + 1 := by omega
        rw [e1, e2]; rfl
      · rw [if_neg hin, if_neg hx, if_neg (by simp; omega)]

/-- The buffer of a byte sequence is canonical, within its length. -/
theorem Memory.wf_ofBytes (bytes : List Byte) : Memory.wf bytes.length (Memory.ofBytes bytes) = true :=
  Memory.wf_writeFrom bytes rfl (by omega)

/-- Byte i of the buffer is byte i of the sequence. -/
theorem Memory.read_ofBytes (bytes : List Byte) (x : Nat) : Memory.read (Memory.ofBytes bytes) x = bytes.getD x 0x00 := by
  rw [Memory.ofBytes, Memory.read_writeFrom (bound := bytes.length) bytes rfl (by omega)]
  by_cases hx : x < bytes.length
  · simp [hx]
  · simp [hx, Memory.read]

/-- Lane i of the port is the byte at address i. -/
@[simp] theorem Memory.lanes_get (m : Memory) (i : Nat) (h : i < 16) : (Memory.lanes m)[i] = Memory.read m i := by
  simp [Memory.lanes]

end Sys2Proof.Machine
end

