-- ==== Sys2Proof/Laws/State.lean ====
section
/-!
SUPPORT. One lemma per field per update of the transaction and of the state, each true by `rfl`: no later proof unfolds a
record update.
-/

namespace Sys2Proof.Machine

@[simp] theorem Txn.goto_stage (t : Txn) (v : Stage) : (t.goto v).stage = v := rfl
@[simp] theorem Txn.goto_w (t : Txn) (v : Stage) : (t.goto v).w = t.w := rfl
@[simp] theorem Txn.goto_len (t : Txn) (v : Stage) : (t.goto v).len = t.len := rfl
@[simp] theorem Txn.goto_cmp (t : Txn) (v : Stage) : (t.goto v).cmp = t.cmp := rfl
@[simp] theorem Txn.goto_rawbm (t : Txn) (v : Stage) : (t.goto v).rawbm = t.rawbm := rfl
@[simp] theorem Txn.goto_bm (t : Txn) (v : Stage) : (t.goto v).bm = t.bm := rfl
@[simp] theorem Txn.goto_prod (t : Txn) (v : Stage) : (t.goto v).prod = t.prod := rfl
@[simp] theorem Txn.goto_hc (t : Txn) (v : Stage) : (t.goto v).hc = t.hc := rfl
@[simp] theorem Txn.goto_pid (t : Txn) (v : Stage) : (t.goto v).pid = t.pid := rfl
@[simp] theorem Txn.goto_desc (t : Txn) (v : Stage) : (t.goto v).desc = t.desc := rfl
@[simp] theorem Txn.goto_gl (t : Txn) (v : Stage) : (t.goto v).gl = t.gl := rfl
@[simp] theorem Txn.goto_lzmask (t : Txn) (v : Stage) : (t.goto v).lzmask = t.lzmask := rfl
@[simp] theorem Txn.goto_cl (t : Txn) (v : Stage) : (t.goto v).cl = t.cl := rfl
@[simp] theorem Txn.goto_dl (t : Txn) (v : Stage) : (t.goto v).dl = t.dl := rfl
@[simp] theorem Txn.goto_p (t : Txn) (v : Stage) : (t.goto v).p = t.p := rfl
@[simp] theorem Txn.goto_ps (t : Txn) (v : Stage) : (t.goto v).ps = t.ps := rfl
@[simp] theorem Txn.goto_s (t : Txn) (v : Stage) : (t.goto v).s = t.s := rfl
@[simp] theorem Txn.goto_b (t : Txn) (v : Stage) : (t.goto v).b = t.b := rfl
@[simp] theorem Txn.goto_res (t : Txn) (v : Stage) : (t.goto v).res = t.res := rfl
@[simp] theorem Txn.goto_ok (t : Txn) (v : Stage) : (t.goto v).ok = t.ok := rfl
@[simp] theorem Txn.goto_g0 (t : Txn) (v : Stage) : (t.goto v).g0 = t.g0 := rfl
@[simp] theorem Txn.goto_g1 (t : Txn) (v : Stage) : (t.goto v).g1 = t.g1 := rfl
@[simp] theorem Txn.goto_g2 (t : Txn) (v : Stage) : (t.goto v).g2 = t.g2 := rfl
@[simp] theorem Txn.goto_g3 (t : Txn) (v : Stage) : (t.goto v).g3 = t.g3 := rfl
@[simp] theorem Txn.goto_g4 (t : Txn) (v : Stage) : (t.goto v).g4 = t.g4 := rfl
@[simp] theorem Txn.goto_g5 (t : Txn) (v : Stage) : (t.goto v).g5 = t.g5 := rfl
@[simp] theorem Txn.setCmp_stage (t : Txn) (v : Lanes Bool) : (t.setCmp v).stage = t.stage := rfl
@[simp] theorem Txn.setCmp_w (t : Txn) (v : Lanes Bool) : (t.setCmp v).w = t.w := rfl
@[simp] theorem Txn.setCmp_len (t : Txn) (v : Lanes Bool) : (t.setCmp v).len = t.len := rfl
@[simp] theorem Txn.setCmp_cmp (t : Txn) (v : Lanes Bool) : (t.setCmp v).cmp = some v := rfl
@[simp] theorem Txn.setCmp_rawbm (t : Txn) (v : Lanes Bool) : (t.setCmp v).rawbm = t.rawbm := rfl
@[simp] theorem Txn.setCmp_bm (t : Txn) (v : Lanes Bool) : (t.setCmp v).bm = t.bm := rfl
@[simp] theorem Txn.setCmp_prod (t : Txn) (v : Lanes Bool) : (t.setCmp v).prod = t.prod := rfl
@[simp] theorem Txn.setCmp_hc (t : Txn) (v : Lanes Bool) : (t.setCmp v).hc = t.hc := rfl
@[simp] theorem Txn.setCmp_pid (t : Txn) (v : Lanes Bool) : (t.setCmp v).pid = t.pid := rfl
@[simp] theorem Txn.setCmp_desc (t : Txn) (v : Lanes Bool) : (t.setCmp v).desc = t.desc := rfl
@[simp] theorem Txn.setCmp_gl (t : Txn) (v : Lanes Bool) : (t.setCmp v).gl = t.gl := rfl
@[simp] theorem Txn.setCmp_lzmask (t : Txn) (v : Lanes Bool) : (t.setCmp v).lzmask = t.lzmask := rfl
@[simp] theorem Txn.setCmp_cl (t : Txn) (v : Lanes Bool) : (t.setCmp v).cl = t.cl := rfl
@[simp] theorem Txn.setCmp_dl (t : Txn) (v : Lanes Bool) : (t.setCmp v).dl = t.dl := rfl
@[simp] theorem Txn.setCmp_p (t : Txn) (v : Lanes Bool) : (t.setCmp v).p = t.p := rfl
@[simp] theorem Txn.setCmp_ps (t : Txn) (v : Lanes Bool) : (t.setCmp v).ps = t.ps := rfl
@[simp] theorem Txn.setCmp_s (t : Txn) (v : Lanes Bool) : (t.setCmp v).s = t.s := rfl
@[simp] theorem Txn.setCmp_b (t : Txn) (v : Lanes Bool) : (t.setCmp v).b = t.b := rfl
@[simp] theorem Txn.setCmp_res (t : Txn) (v : Lanes Bool) : (t.setCmp v).res = t.res := rfl
@[simp] theorem Txn.setCmp_ok (t : Txn) (v : Lanes Bool) : (t.setCmp v).ok = t.ok := rfl
@[simp] theorem Txn.setCmp_g0 (t : Txn) (v : Lanes Bool) : (t.setCmp v).g0 = t.g0 := rfl
@[simp] theorem Txn.setCmp_g1 (t : Txn) (v : Lanes Bool) : (t.setCmp v).g1 = t.g1 := rfl
@[simp] theorem Txn.setCmp_g2 (t : Txn) (v : Lanes Bool) : (t.setCmp v).g2 = t.g2 := rfl
@[simp] theorem Txn.setCmp_g3 (t : Txn) (v : Lanes Bool) : (t.setCmp v).g3 = t.g3 := rfl
@[simp] theorem Txn.setCmp_g4 (t : Txn) (v : Lanes Bool) : (t.setCmp v).g4 = t.g4 := rfl
@[simp] theorem Txn.setCmp_g5 (t : Txn) (v : Lanes Bool) : (t.setCmp v).g5 = t.g5 := rfl
@[simp] theorem Txn.setRawbm_stage (t : Txn) (v : BitVec 16) : (t.setRawbm v).stage = t.stage := rfl
@[simp] theorem Txn.setRawbm_w (t : Txn) (v : BitVec 16) : (t.setRawbm v).w = t.w := rfl
@[simp] theorem Txn.setRawbm_len (t : Txn) (v : BitVec 16) : (t.setRawbm v).len = t.len := rfl
@[simp] theorem Txn.setRawbm_cmp (t : Txn) (v : BitVec 16) : (t.setRawbm v).cmp = t.cmp := rfl
@[simp] theorem Txn.setRawbm_rawbm (t : Txn) (v : BitVec 16) : (t.setRawbm v).rawbm = some v := rfl
@[simp] theorem Txn.setRawbm_bm (t : Txn) (v : BitVec 16) : (t.setRawbm v).bm = t.bm := rfl
@[simp] theorem Txn.setRawbm_prod (t : Txn) (v : BitVec 16) : (t.setRawbm v).prod = t.prod := rfl
@[simp] theorem Txn.setRawbm_hc (t : Txn) (v : BitVec 16) : (t.setRawbm v).hc = t.hc := rfl
@[simp] theorem Txn.setRawbm_pid (t : Txn) (v : BitVec 16) : (t.setRawbm v).pid = t.pid := rfl
@[simp] theorem Txn.setRawbm_desc (t : Txn) (v : BitVec 16) : (t.setRawbm v).desc = t.desc := rfl
@[simp] theorem Txn.setRawbm_gl (t : Txn) (v : BitVec 16) : (t.setRawbm v).gl = t.gl := rfl
@[simp] theorem Txn.setRawbm_lzmask (t : Txn) (v : BitVec 16) : (t.setRawbm v).lzmask = t.lzmask := rfl
@[simp] theorem Txn.setRawbm_cl (t : Txn) (v : BitVec 16) : (t.setRawbm v).cl = t.cl := rfl
@[simp] theorem Txn.setRawbm_dl (t : Txn) (v : BitVec 16) : (t.setRawbm v).dl = t.dl := rfl
@[simp] theorem Txn.setRawbm_p (t : Txn) (v : BitVec 16) : (t.setRawbm v).p = t.p := rfl
@[simp] theorem Txn.setRawbm_ps (t : Txn) (v : BitVec 16) : (t.setRawbm v).ps = t.ps := rfl
@[simp] theorem Txn.setRawbm_s (t : Txn) (v : BitVec 16) : (t.setRawbm v).s = t.s := rfl
@[simp] theorem Txn.setRawbm_b (t : Txn) (v : BitVec 16) : (t.setRawbm v).b = t.b := rfl
@[simp] theorem Txn.setRawbm_res (t : Txn) (v : BitVec 16) : (t.setRawbm v).res = t.res := rfl
@[simp] theorem Txn.setRawbm_ok (t : Txn) (v : BitVec 16) : (t.setRawbm v).ok = t.ok := rfl
@[simp] theorem Txn.setRawbm_g0 (t : Txn) (v : BitVec 16) : (t.setRawbm v).g0 = t.g0 := rfl
@[simp] theorem Txn.setRawbm_g1 (t : Txn) (v : BitVec 16) : (t.setRawbm v).g1 = t.g1 := rfl
@[simp] theorem Txn.setRawbm_g2 (t : Txn) (v : BitVec 16) : (t.setRawbm v).g2 = t.g2 := rfl
@[simp] theorem Txn.setRawbm_g3 (t : Txn) (v : BitVec 16) : (t.setRawbm v).g3 = t.g3 := rfl
@[simp] theorem Txn.setRawbm_g4 (t : Txn) (v : BitVec 16) : (t.setRawbm v).g4 = t.g4 := rfl
@[simp] theorem Txn.setRawbm_g5 (t : Txn) (v : BitVec 16) : (t.setRawbm v).g5 = t.g5 := rfl
@[simp] theorem Txn.setBm_stage (t : Txn) (v : BitVec 16) : (t.setBm v).stage = t.stage := rfl
@[simp] theorem Txn.setBm_w (t : Txn) (v : BitVec 16) : (t.setBm v).w = t.w := rfl
@[simp] theorem Txn.setBm_len (t : Txn) (v : BitVec 16) : (t.setBm v).len = t.len := rfl
@[simp] theorem Txn.setBm_cmp (t : Txn) (v : BitVec 16) : (t.setBm v).cmp = t.cmp := rfl
@[simp] theorem Txn.setBm_rawbm (t : Txn) (v : BitVec 16) : (t.setBm v).rawbm = t.rawbm := rfl
@[simp] theorem Txn.setBm_bm (t : Txn) (v : BitVec 16) : (t.setBm v).bm = some v := rfl
@[simp] theorem Txn.setBm_prod (t : Txn) (v : BitVec 16) : (t.setBm v).prod = t.prod := rfl
@[simp] theorem Txn.setBm_hc (t : Txn) (v : BitVec 16) : (t.setBm v).hc = t.hc := rfl
@[simp] theorem Txn.setBm_pid (t : Txn) (v : BitVec 16) : (t.setBm v).pid = t.pid := rfl
@[simp] theorem Txn.setBm_desc (t : Txn) (v : BitVec 16) : (t.setBm v).desc = t.desc := rfl
@[simp] theorem Txn.setBm_gl (t : Txn) (v : BitVec 16) : (t.setBm v).gl = t.gl := rfl
@[simp] theorem Txn.setBm_lzmask (t : Txn) (v : BitVec 16) : (t.setBm v).lzmask = t.lzmask := rfl
@[simp] theorem Txn.setBm_cl (t : Txn) (v : BitVec 16) : (t.setBm v).cl = t.cl := rfl
@[simp] theorem Txn.setBm_dl (t : Txn) (v : BitVec 16) : (t.setBm v).dl = t.dl := rfl
@[simp] theorem Txn.setBm_p (t : Txn) (v : BitVec 16) : (t.setBm v).p = t.p := rfl
@[simp] theorem Txn.setBm_ps (t : Txn) (v : BitVec 16) : (t.setBm v).ps = t.ps := rfl
@[simp] theorem Txn.setBm_s (t : Txn) (v : BitVec 16) : (t.setBm v).s = t.s := rfl
@[simp] theorem Txn.setBm_b (t : Txn) (v : BitVec 16) : (t.setBm v).b = t.b := rfl
@[simp] theorem Txn.setBm_res (t : Txn) (v : BitVec 16) : (t.setBm v).res = t.res := rfl
@[simp] theorem Txn.setBm_ok (t : Txn) (v : BitVec 16) : (t.setBm v).ok = t.ok := rfl
@[simp] theorem Txn.setBm_g0 (t : Txn) (v : BitVec 16) : (t.setBm v).g0 = t.g0 := rfl
@[simp] theorem Txn.setBm_g1 (t : Txn) (v : BitVec 16) : (t.setBm v).g1 = t.g1 := rfl
@[simp] theorem Txn.setBm_g2 (t : Txn) (v : BitVec 16) : (t.setBm v).g2 = t.g2 := rfl
@[simp] theorem Txn.setBm_g3 (t : Txn) (v : BitVec 16) : (t.setBm v).g3 = t.g3 := rfl
@[simp] theorem Txn.setBm_g4 (t : Txn) (v : BitVec 16) : (t.setBm v).g4 = t.g4 := rfl
@[simp] theorem Txn.setBm_g5 (t : Txn) (v : BitVec 16) : (t.setBm v).g5 = t.g5 := rfl
@[simp] theorem Txn.setProd_stage (t : Txn) (v : BitVec 29) : (t.setProd v).stage = t.stage := rfl
@[simp] theorem Txn.setProd_w (t : Txn) (v : BitVec 29) : (t.setProd v).w = t.w := rfl
@[simp] theorem Txn.setProd_len (t : Txn) (v : BitVec 29) : (t.setProd v).len = t.len := rfl
@[simp] theorem Txn.setProd_cmp (t : Txn) (v : BitVec 29) : (t.setProd v).cmp = t.cmp := rfl
@[simp] theorem Txn.setProd_rawbm (t : Txn) (v : BitVec 29) : (t.setProd v).rawbm = t.rawbm := rfl
@[simp] theorem Txn.setProd_bm (t : Txn) (v : BitVec 29) : (t.setProd v).bm = t.bm := rfl
@[simp] theorem Txn.setProd_prod (t : Txn) (v : BitVec 29) : (t.setProd v).prod = some v := rfl
@[simp] theorem Txn.setProd_hc (t : Txn) (v : BitVec 29) : (t.setProd v).hc = t.hc := rfl
@[simp] theorem Txn.setProd_pid (t : Txn) (v : BitVec 29) : (t.setProd v).pid = t.pid := rfl
@[simp] theorem Txn.setProd_desc (t : Txn) (v : BitVec 29) : (t.setProd v).desc = t.desc := rfl
@[simp] theorem Txn.setProd_gl (t : Txn) (v : BitVec 29) : (t.setProd v).gl = t.gl := rfl
@[simp] theorem Txn.setProd_lzmask (t : Txn) (v : BitVec 29) : (t.setProd v).lzmask = t.lzmask := rfl
@[simp] theorem Txn.setProd_cl (t : Txn) (v : BitVec 29) : (t.setProd v).cl = t.cl := rfl
@[simp] theorem Txn.setProd_dl (t : Txn) (v : BitVec 29) : (t.setProd v).dl = t.dl := rfl
@[simp] theorem Txn.setProd_p (t : Txn) (v : BitVec 29) : (t.setProd v).p = t.p := rfl
@[simp] theorem Txn.setProd_ps (t : Txn) (v : BitVec 29) : (t.setProd v).ps = t.ps := rfl
@[simp] theorem Txn.setProd_s (t : Txn) (v : BitVec 29) : (t.setProd v).s = t.s := rfl
@[simp] theorem Txn.setProd_b (t : Txn) (v : BitVec 29) : (t.setProd v).b = t.b := rfl
@[simp] theorem Txn.setProd_res (t : Txn) (v : BitVec 29) : (t.setProd v).res = t.res := rfl
@[simp] theorem Txn.setProd_ok (t : Txn) (v : BitVec 29) : (t.setProd v).ok = t.ok := rfl
@[simp] theorem Txn.setProd_g0 (t : Txn) (v : BitVec 29) : (t.setProd v).g0 = t.g0 := rfl
@[simp] theorem Txn.setProd_g1 (t : Txn) (v : BitVec 29) : (t.setProd v).g1 = t.g1 := rfl
@[simp] theorem Txn.setProd_g2 (t : Txn) (v : BitVec 29) : (t.setProd v).g2 = t.g2 := rfl
@[simp] theorem Txn.setProd_g3 (t : Txn) (v : BitVec 29) : (t.setProd v).g3 = t.g3 := rfl
@[simp] theorem Txn.setProd_g4 (t : Txn) (v : BitVec 29) : (t.setProd v).g4 = t.g4 := rfl
@[simp] theorem Txn.setProd_g5 (t : Txn) (v : BitVec 29) : (t.setProd v).g5 = t.g5 := rfl
@[simp] theorem Txn.setHc_stage (t : Txn) (v : Byte) : (t.setHc v).stage = t.stage := rfl
@[simp] theorem Txn.setHc_w (t : Txn) (v : Byte) : (t.setHc v).w = t.w := rfl
@[simp] theorem Txn.setHc_len (t : Txn) (v : Byte) : (t.setHc v).len = t.len := rfl
@[simp] theorem Txn.setHc_cmp (t : Txn) (v : Byte) : (t.setHc v).cmp = t.cmp := rfl
@[simp] theorem Txn.setHc_rawbm (t : Txn) (v : Byte) : (t.setHc v).rawbm = t.rawbm := rfl
@[simp] theorem Txn.setHc_bm (t : Txn) (v : Byte) : (t.setHc v).bm = t.bm := rfl
@[simp] theorem Txn.setHc_prod (t : Txn) (v : Byte) : (t.setHc v).prod = t.prod := rfl
@[simp] theorem Txn.setHc_hc (t : Txn) (v : Byte) : (t.setHc v).hc = some v := rfl
@[simp] theorem Txn.setHc_pid (t : Txn) (v : Byte) : (t.setHc v).pid = t.pid := rfl
@[simp] theorem Txn.setHc_desc (t : Txn) (v : Byte) : (t.setHc v).desc = t.desc := rfl
@[simp] theorem Txn.setHc_gl (t : Txn) (v : Byte) : (t.setHc v).gl = t.gl := rfl
@[simp] theorem Txn.setHc_lzmask (t : Txn) (v : Byte) : (t.setHc v).lzmask = t.lzmask := rfl
@[simp] theorem Txn.setHc_cl (t : Txn) (v : Byte) : (t.setHc v).cl = t.cl := rfl
@[simp] theorem Txn.setHc_dl (t : Txn) (v : Byte) : (t.setHc v).dl = t.dl := rfl
@[simp] theorem Txn.setHc_p (t : Txn) (v : Byte) : (t.setHc v).p = t.p := rfl
@[simp] theorem Txn.setHc_ps (t : Txn) (v : Byte) : (t.setHc v).ps = t.ps := rfl
@[simp] theorem Txn.setHc_s (t : Txn) (v : Byte) : (t.setHc v).s = t.s := rfl
@[simp] theorem Txn.setHc_b (t : Txn) (v : Byte) : (t.setHc v).b = t.b := rfl
@[simp] theorem Txn.setHc_res (t : Txn) (v : Byte) : (t.setHc v).res = t.res := rfl
@[simp] theorem Txn.setHc_ok (t : Txn) (v : Byte) : (t.setHc v).ok = t.ok := rfl
@[simp] theorem Txn.setHc_g0 (t : Txn) (v : Byte) : (t.setHc v).g0 = t.g0 := rfl
@[simp] theorem Txn.setHc_g1 (t : Txn) (v : Byte) : (t.setHc v).g1 = t.g1 := rfl
@[simp] theorem Txn.setHc_g2 (t : Txn) (v : Byte) : (t.setHc v).g2 = t.g2 := rfl
@[simp] theorem Txn.setHc_g3 (t : Txn) (v : Byte) : (t.setHc v).g3 = t.g3 := rfl
@[simp] theorem Txn.setHc_g4 (t : Txn) (v : Byte) : (t.setHc v).g4 = t.g4 := rfl
@[simp] theorem Txn.setHc_g5 (t : Txn) (v : Byte) : (t.setHc v).g5 = t.g5 := rfl
@[simp] theorem Txn.setPid_stage (t : Txn) (v : Byte) : (t.setPid v).stage = t.stage := rfl
@[simp] theorem Txn.setPid_w (t : Txn) (v : Byte) : (t.setPid v).w = t.w := rfl
@[simp] theorem Txn.setPid_len (t : Txn) (v : Byte) : (t.setPid v).len = t.len := rfl
@[simp] theorem Txn.setPid_cmp (t : Txn) (v : Byte) : (t.setPid v).cmp = t.cmp := rfl
@[simp] theorem Txn.setPid_rawbm (t : Txn) (v : Byte) : (t.setPid v).rawbm = t.rawbm := rfl
@[simp] theorem Txn.setPid_bm (t : Txn) (v : Byte) : (t.setPid v).bm = t.bm := rfl
@[simp] theorem Txn.setPid_prod (t : Txn) (v : Byte) : (t.setPid v).prod = t.prod := rfl
@[simp] theorem Txn.setPid_hc (t : Txn) (v : Byte) : (t.setPid v).hc = t.hc := rfl
@[simp] theorem Txn.setPid_pid (t : Txn) (v : Byte) : (t.setPid v).pid = some v := rfl
@[simp] theorem Txn.setPid_desc (t : Txn) (v : Byte) : (t.setPid v).desc = t.desc := rfl
@[simp] theorem Txn.setPid_gl (t : Txn) (v : Byte) : (t.setPid v).gl = t.gl := rfl
@[simp] theorem Txn.setPid_lzmask (t : Txn) (v : Byte) : (t.setPid v).lzmask = t.lzmask := rfl
@[simp] theorem Txn.setPid_cl (t : Txn) (v : Byte) : (t.setPid v).cl = t.cl := rfl
@[simp] theorem Txn.setPid_dl (t : Txn) (v : Byte) : (t.setPid v).dl = t.dl := rfl
@[simp] theorem Txn.setPid_p (t : Txn) (v : Byte) : (t.setPid v).p = t.p := rfl
@[simp] theorem Txn.setPid_ps (t : Txn) (v : Byte) : (t.setPid v).ps = t.ps := rfl
@[simp] theorem Txn.setPid_s (t : Txn) (v : Byte) : (t.setPid v).s = t.s := rfl
@[simp] theorem Txn.setPid_b (t : Txn) (v : Byte) : (t.setPid v).b = t.b := rfl
@[simp] theorem Txn.setPid_res (t : Txn) (v : Byte) : (t.setPid v).res = t.res := rfl
@[simp] theorem Txn.setPid_ok (t : Txn) (v : Byte) : (t.setPid v).ok = t.ok := rfl
@[simp] theorem Txn.setPid_g0 (t : Txn) (v : Byte) : (t.setPid v).g0 = t.g0 := rfl
@[simp] theorem Txn.setPid_g1 (t : Txn) (v : Byte) : (t.setPid v).g1 = t.g1 := rfl
@[simp] theorem Txn.setPid_g2 (t : Txn) (v : Byte) : (t.setPid v).g2 = t.g2 := rfl
@[simp] theorem Txn.setPid_g3 (t : Txn) (v : Byte) : (t.setPid v).g3 = t.g3 := rfl
@[simp] theorem Txn.setPid_g4 (t : Txn) (v : Byte) : (t.setPid v).g4 = t.g4 := rfl
@[simp] theorem Txn.setPid_g5 (t : Txn) (v : Byte) : (t.setPid v).g5 = t.g5 := rfl
@[simp] theorem Txn.setDesc_stage (t : Txn) (v : Descriptor) : (t.setDesc v).stage = t.stage := rfl
@[simp] theorem Txn.setDesc_w (t : Txn) (v : Descriptor) : (t.setDesc v).w = t.w := rfl
@[simp] theorem Txn.setDesc_len (t : Txn) (v : Descriptor) : (t.setDesc v).len = t.len := rfl
@[simp] theorem Txn.setDesc_cmp (t : Txn) (v : Descriptor) : (t.setDesc v).cmp = t.cmp := rfl
@[simp] theorem Txn.setDesc_rawbm (t : Txn) (v : Descriptor) : (t.setDesc v).rawbm = t.rawbm := rfl
@[simp] theorem Txn.setDesc_bm (t : Txn) (v : Descriptor) : (t.setDesc v).bm = t.bm := rfl
@[simp] theorem Txn.setDesc_prod (t : Txn) (v : Descriptor) : (t.setDesc v).prod = t.prod := rfl
@[simp] theorem Txn.setDesc_hc (t : Txn) (v : Descriptor) : (t.setDesc v).hc = t.hc := rfl
@[simp] theorem Txn.setDesc_pid (t : Txn) (v : Descriptor) : (t.setDesc v).pid = t.pid := rfl
@[simp] theorem Txn.setDesc_desc (t : Txn) (v : Descriptor) : (t.setDesc v).desc = some v := rfl
@[simp] theorem Txn.setDesc_gl (t : Txn) (v : Descriptor) : (t.setDesc v).gl = t.gl := rfl
@[simp] theorem Txn.setDesc_lzmask (t : Txn) (v : Descriptor) : (t.setDesc v).lzmask = t.lzmask := rfl
@[simp] theorem Txn.setDesc_cl (t : Txn) (v : Descriptor) : (t.setDesc v).cl = t.cl := rfl
@[simp] theorem Txn.setDesc_dl (t : Txn) (v : Descriptor) : (t.setDesc v).dl = t.dl := rfl
@[simp] theorem Txn.setDesc_p (t : Txn) (v : Descriptor) : (t.setDesc v).p = t.p := rfl
@[simp] theorem Txn.setDesc_ps (t : Txn) (v : Descriptor) : (t.setDesc v).ps = t.ps := rfl
@[simp] theorem Txn.setDesc_s (t : Txn) (v : Descriptor) : (t.setDesc v).s = t.s := rfl
@[simp] theorem Txn.setDesc_b (t : Txn) (v : Descriptor) : (t.setDesc v).b = t.b := rfl
@[simp] theorem Txn.setDesc_res (t : Txn) (v : Descriptor) : (t.setDesc v).res = t.res := rfl
@[simp] theorem Txn.setDesc_ok (t : Txn) (v : Descriptor) : (t.setDesc v).ok = t.ok := rfl
@[simp] theorem Txn.setDesc_g0 (t : Txn) (v : Descriptor) : (t.setDesc v).g0 = t.g0 := rfl
@[simp] theorem Txn.setDesc_g1 (t : Txn) (v : Descriptor) : (t.setDesc v).g1 = t.g1 := rfl
@[simp] theorem Txn.setDesc_g2 (t : Txn) (v : Descriptor) : (t.setDesc v).g2 = t.g2 := rfl
@[simp] theorem Txn.setDesc_g3 (t : Txn) (v : Descriptor) : (t.setDesc v).g3 = t.g3 := rfl
@[simp] theorem Txn.setDesc_g4 (t : Txn) (v : Descriptor) : (t.setDesc v).g4 = t.g4 := rfl
@[simp] theorem Txn.setDesc_g5 (t : Txn) (v : Descriptor) : (t.setDesc v).g5 = t.g5 := rfl
@[simp] theorem Txn.setGl_stage (t : Txn) (v : Lanes Byte) : (t.setGl v).stage = t.stage := rfl
@[simp] theorem Txn.setGl_w (t : Txn) (v : Lanes Byte) : (t.setGl v).w = t.w := rfl
@[simp] theorem Txn.setGl_len (t : Txn) (v : Lanes Byte) : (t.setGl v).len = t.len := rfl
@[simp] theorem Txn.setGl_cmp (t : Txn) (v : Lanes Byte) : (t.setGl v).cmp = t.cmp := rfl
@[simp] theorem Txn.setGl_rawbm (t : Txn) (v : Lanes Byte) : (t.setGl v).rawbm = t.rawbm := rfl
@[simp] theorem Txn.setGl_bm (t : Txn) (v : Lanes Byte) : (t.setGl v).bm = t.bm := rfl
@[simp] theorem Txn.setGl_prod (t : Txn) (v : Lanes Byte) : (t.setGl v).prod = t.prod := rfl
@[simp] theorem Txn.setGl_hc (t : Txn) (v : Lanes Byte) : (t.setGl v).hc = t.hc := rfl
@[simp] theorem Txn.setGl_pid (t : Txn) (v : Lanes Byte) : (t.setGl v).pid = t.pid := rfl
@[simp] theorem Txn.setGl_desc (t : Txn) (v : Lanes Byte) : (t.setGl v).desc = t.desc := rfl
@[simp] theorem Txn.setGl_gl (t : Txn) (v : Lanes Byte) : (t.setGl v).gl = some v := rfl
@[simp] theorem Txn.setGl_lzmask (t : Txn) (v : Lanes Byte) : (t.setGl v).lzmask = t.lzmask := rfl
@[simp] theorem Txn.setGl_cl (t : Txn) (v : Lanes Byte) : (t.setGl v).cl = t.cl := rfl
@[simp] theorem Txn.setGl_dl (t : Txn) (v : Lanes Byte) : (t.setGl v).dl = t.dl := rfl
@[simp] theorem Txn.setGl_p (t : Txn) (v : Lanes Byte) : (t.setGl v).p = t.p := rfl
@[simp] theorem Txn.setGl_ps (t : Txn) (v : Lanes Byte) : (t.setGl v).ps = t.ps := rfl
@[simp] theorem Txn.setGl_s (t : Txn) (v : Lanes Byte) : (t.setGl v).s = t.s := rfl
@[simp] theorem Txn.setGl_b (t : Txn) (v : Lanes Byte) : (t.setGl v).b = t.b := rfl
@[simp] theorem Txn.setGl_res (t : Txn) (v : Lanes Byte) : (t.setGl v).res = t.res := rfl
@[simp] theorem Txn.setGl_ok (t : Txn) (v : Lanes Byte) : (t.setGl v).ok = t.ok := rfl
@[simp] theorem Txn.setGl_g0 (t : Txn) (v : Lanes Byte) : (t.setGl v).g0 = t.g0 := rfl
@[simp] theorem Txn.setGl_g1 (t : Txn) (v : Lanes Byte) : (t.setGl v).g1 = t.g1 := rfl
@[simp] theorem Txn.setGl_g2 (t : Txn) (v : Lanes Byte) : (t.setGl v).g2 = t.g2 := rfl
@[simp] theorem Txn.setGl_g3 (t : Txn) (v : Lanes Byte) : (t.setGl v).g3 = t.g3 := rfl
@[simp] theorem Txn.setGl_g4 (t : Txn) (v : Lanes Byte) : (t.setGl v).g4 = t.g4 := rfl
@[simp] theorem Txn.setGl_g5 (t : Txn) (v : Lanes Byte) : (t.setGl v).g5 = t.g5 := rfl
@[simp] theorem Txn.setLzmask_stage (t : Txn) (v : Lanes Bool) : (t.setLzmask v).stage = t.stage := rfl
@[simp] theorem Txn.setLzmask_w (t : Txn) (v : Lanes Bool) : (t.setLzmask v).w = t.w := rfl
@[simp] theorem Txn.setLzmask_len (t : Txn) (v : Lanes Bool) : (t.setLzmask v).len = t.len := rfl
@[simp] theorem Txn.setLzmask_cmp (t : Txn) (v : Lanes Bool) : (t.setLzmask v).cmp = t.cmp := rfl
@[simp] theorem Txn.setLzmask_rawbm (t : Txn) (v : Lanes Bool) : (t.setLzmask v).rawbm = t.rawbm := rfl
@[simp] theorem Txn.setLzmask_bm (t : Txn) (v : Lanes Bool) : (t.setLzmask v).bm = t.bm := rfl
@[simp] theorem Txn.setLzmask_prod (t : Txn) (v : Lanes Bool) : (t.setLzmask v).prod = t.prod := rfl
@[simp] theorem Txn.setLzmask_hc (t : Txn) (v : Lanes Bool) : (t.setLzmask v).hc = t.hc := rfl
@[simp] theorem Txn.setLzmask_pid (t : Txn) (v : Lanes Bool) : (t.setLzmask v).pid = t.pid := rfl
@[simp] theorem Txn.setLzmask_desc (t : Txn) (v : Lanes Bool) : (t.setLzmask v).desc = t.desc := rfl
@[simp] theorem Txn.setLzmask_gl (t : Txn) (v : Lanes Bool) : (t.setLzmask v).gl = t.gl := rfl
@[simp] theorem Txn.setLzmask_lzmask (t : Txn) (v : Lanes Bool) : (t.setLzmask v).lzmask = some v := rfl
@[simp] theorem Txn.setLzmask_cl (t : Txn) (v : Lanes Bool) : (t.setLzmask v).cl = t.cl := rfl
@[simp] theorem Txn.setLzmask_dl (t : Txn) (v : Lanes Bool) : (t.setLzmask v).dl = t.dl := rfl
@[simp] theorem Txn.setLzmask_p (t : Txn) (v : Lanes Bool) : (t.setLzmask v).p = t.p := rfl
@[simp] theorem Txn.setLzmask_ps (t : Txn) (v : Lanes Bool) : (t.setLzmask v).ps = t.ps := rfl
@[simp] theorem Txn.setLzmask_s (t : Txn) (v : Lanes Bool) : (t.setLzmask v).s = t.s := rfl
@[simp] theorem Txn.setLzmask_b (t : Txn) (v : Lanes Bool) : (t.setLzmask v).b = t.b := rfl
@[simp] theorem Txn.setLzmask_res (t : Txn) (v : Lanes Bool) : (t.setLzmask v).res = t.res := rfl
@[simp] theorem Txn.setLzmask_ok (t : Txn) (v : Lanes Bool) : (t.setLzmask v).ok = t.ok := rfl
@[simp] theorem Txn.setLzmask_g0 (t : Txn) (v : Lanes Bool) : (t.setLzmask v).g0 = t.g0 := rfl
@[simp] theorem Txn.setLzmask_g1 (t : Txn) (v : Lanes Bool) : (t.setLzmask v).g1 = t.g1 := rfl
@[simp] theorem Txn.setLzmask_g2 (t : Txn) (v : Lanes Bool) : (t.setLzmask v).g2 = t.g2 := rfl
@[simp] theorem Txn.setLzmask_g3 (t : Txn) (v : Lanes Bool) : (t.setLzmask v).g3 = t.g3 := rfl
@[simp] theorem Txn.setLzmask_g4 (t : Txn) (v : Lanes Bool) : (t.setLzmask v).g4 = t.g4 := rfl
@[simp] theorem Txn.setLzmask_g5 (t : Txn) (v : Lanes Bool) : (t.setLzmask v).g5 = t.g5 := rfl
@[simp] theorem Txn.setCl_stage (t : Txn) (v : Lanes Byte) : (t.setCl v).stage = t.stage := rfl
@[simp] theorem Txn.setCl_w (t : Txn) (v : Lanes Byte) : (t.setCl v).w = t.w := rfl
@[simp] theorem Txn.setCl_len (t : Txn) (v : Lanes Byte) : (t.setCl v).len = t.len := rfl
@[simp] theorem Txn.setCl_cmp (t : Txn) (v : Lanes Byte) : (t.setCl v).cmp = t.cmp := rfl
@[simp] theorem Txn.setCl_rawbm (t : Txn) (v : Lanes Byte) : (t.setCl v).rawbm = t.rawbm := rfl
@[simp] theorem Txn.setCl_bm (t : Txn) (v : Lanes Byte) : (t.setCl v).bm = t.bm := rfl
@[simp] theorem Txn.setCl_prod (t : Txn) (v : Lanes Byte) : (t.setCl v).prod = t.prod := rfl
@[simp] theorem Txn.setCl_hc (t : Txn) (v : Lanes Byte) : (t.setCl v).hc = t.hc := rfl
@[simp] theorem Txn.setCl_pid (t : Txn) (v : Lanes Byte) : (t.setCl v).pid = t.pid := rfl
@[simp] theorem Txn.setCl_desc (t : Txn) (v : Lanes Byte) : (t.setCl v).desc = t.desc := rfl
@[simp] theorem Txn.setCl_gl (t : Txn) (v : Lanes Byte) : (t.setCl v).gl = t.gl := rfl
@[simp] theorem Txn.setCl_lzmask (t : Txn) (v : Lanes Byte) : (t.setCl v).lzmask = t.lzmask := rfl
@[simp] theorem Txn.setCl_cl (t : Txn) (v : Lanes Byte) : (t.setCl v).cl = some v := rfl
@[simp] theorem Txn.setCl_dl (t : Txn) (v : Lanes Byte) : (t.setCl v).dl = t.dl := rfl
@[simp] theorem Txn.setCl_p (t : Txn) (v : Lanes Byte) : (t.setCl v).p = t.p := rfl
@[simp] theorem Txn.setCl_ps (t : Txn) (v : Lanes Byte) : (t.setCl v).ps = t.ps := rfl
@[simp] theorem Txn.setCl_s (t : Txn) (v : Lanes Byte) : (t.setCl v).s = t.s := rfl
@[simp] theorem Txn.setCl_b (t : Txn) (v : Lanes Byte) : (t.setCl v).b = t.b := rfl
@[simp] theorem Txn.setCl_res (t : Txn) (v : Lanes Byte) : (t.setCl v).res = t.res := rfl
@[simp] theorem Txn.setCl_ok (t : Txn) (v : Lanes Byte) : (t.setCl v).ok = t.ok := rfl
@[simp] theorem Txn.setCl_g0 (t : Txn) (v : Lanes Byte) : (t.setCl v).g0 = t.g0 := rfl
@[simp] theorem Txn.setCl_g1 (t : Txn) (v : Lanes Byte) : (t.setCl v).g1 = t.g1 := rfl
@[simp] theorem Txn.setCl_g2 (t : Txn) (v : Lanes Byte) : (t.setCl v).g2 = t.g2 := rfl
@[simp] theorem Txn.setCl_g3 (t : Txn) (v : Lanes Byte) : (t.setCl v).g3 = t.g3 := rfl
@[simp] theorem Txn.setCl_g4 (t : Txn) (v : Lanes Byte) : (t.setCl v).g4 = t.g4 := rfl
@[simp] theorem Txn.setCl_g5 (t : Txn) (v : Lanes Byte) : (t.setCl v).g5 = t.g5 := rfl
@[simp] theorem Txn.setDl_stage (t : Txn) (v : Lanes Byte) : (t.setDl v).stage = t.stage := rfl
@[simp] theorem Txn.setDl_w (t : Txn) (v : Lanes Byte) : (t.setDl v).w = t.w := rfl
@[simp] theorem Txn.setDl_len (t : Txn) (v : Lanes Byte) : (t.setDl v).len = t.len := rfl
@[simp] theorem Txn.setDl_cmp (t : Txn) (v : Lanes Byte) : (t.setDl v).cmp = t.cmp := rfl
@[simp] theorem Txn.setDl_rawbm (t : Txn) (v : Lanes Byte) : (t.setDl v).rawbm = t.rawbm := rfl
@[simp] theorem Txn.setDl_bm (t : Txn) (v : Lanes Byte) : (t.setDl v).bm = t.bm := rfl
@[simp] theorem Txn.setDl_prod (t : Txn) (v : Lanes Byte) : (t.setDl v).prod = t.prod := rfl
@[simp] theorem Txn.setDl_hc (t : Txn) (v : Lanes Byte) : (t.setDl v).hc = t.hc := rfl
@[simp] theorem Txn.setDl_pid (t : Txn) (v : Lanes Byte) : (t.setDl v).pid = t.pid := rfl
@[simp] theorem Txn.setDl_desc (t : Txn) (v : Lanes Byte) : (t.setDl v).desc = t.desc := rfl
@[simp] theorem Txn.setDl_gl (t : Txn) (v : Lanes Byte) : (t.setDl v).gl = t.gl := rfl
@[simp] theorem Txn.setDl_lzmask (t : Txn) (v : Lanes Byte) : (t.setDl v).lzmask = t.lzmask := rfl
@[simp] theorem Txn.setDl_cl (t : Txn) (v : Lanes Byte) : (t.setDl v).cl = t.cl := rfl
@[simp] theorem Txn.setDl_dl (t : Txn) (v : Lanes Byte) : (t.setDl v).dl = some v := rfl
@[simp] theorem Txn.setDl_p (t : Txn) (v : Lanes Byte) : (t.setDl v).p = t.p := rfl
@[simp] theorem Txn.setDl_ps (t : Txn) (v : Lanes Byte) : (t.setDl v).ps = t.ps := rfl
@[simp] theorem Txn.setDl_s (t : Txn) (v : Lanes Byte) : (t.setDl v).s = t.s := rfl
@[simp] theorem Txn.setDl_b (t : Txn) (v : Lanes Byte) : (t.setDl v).b = t.b := rfl
@[simp] theorem Txn.setDl_res (t : Txn) (v : Lanes Byte) : (t.setDl v).res = t.res := rfl
@[simp] theorem Txn.setDl_ok (t : Txn) (v : Lanes Byte) : (t.setDl v).ok = t.ok := rfl
@[simp] theorem Txn.setDl_g0 (t : Txn) (v : Lanes Byte) : (t.setDl v).g0 = t.g0 := rfl
@[simp] theorem Txn.setDl_g1 (t : Txn) (v : Lanes Byte) : (t.setDl v).g1 = t.g1 := rfl
@[simp] theorem Txn.setDl_g2 (t : Txn) (v : Lanes Byte) : (t.setDl v).g2 = t.g2 := rfl
@[simp] theorem Txn.setDl_g3 (t : Txn) (v : Lanes Byte) : (t.setDl v).g3 = t.g3 := rfl
@[simp] theorem Txn.setDl_g4 (t : Txn) (v : Lanes Byte) : (t.setDl v).g4 = t.g4 := rfl
@[simp] theorem Txn.setDl_g5 (t : Txn) (v : Lanes Byte) : (t.setDl v).g5 = t.g5 := rfl
@[simp] theorem Txn.setP_stage (t : Txn) (v : Lanes (BitVec 16)) : (t.setP v).stage = t.stage := rfl
@[simp] theorem Txn.setP_w (t : Txn) (v : Lanes (BitVec 16)) : (t.setP v).w = t.w := rfl
@[simp] theorem Txn.setP_len (t : Txn) (v : Lanes (BitVec 16)) : (t.setP v).len = t.len := rfl
@[simp] theorem Txn.setP_cmp (t : Txn) (v : Lanes (BitVec 16)) : (t.setP v).cmp = t.cmp := rfl
@[simp] theorem Txn.setP_rawbm (t : Txn) (v : Lanes (BitVec 16)) : (t.setP v).rawbm = t.rawbm := rfl
@[simp] theorem Txn.setP_bm (t : Txn) (v : Lanes (BitVec 16)) : (t.setP v).bm = t.bm := rfl
@[simp] theorem Txn.setP_prod (t : Txn) (v : Lanes (BitVec 16)) : (t.setP v).prod = t.prod := rfl
@[simp] theorem Txn.setP_hc (t : Txn) (v : Lanes (BitVec 16)) : (t.setP v).hc = t.hc := rfl
@[simp] theorem Txn.setP_pid (t : Txn) (v : Lanes (BitVec 16)) : (t.setP v).pid = t.pid := rfl
@[simp] theorem Txn.setP_desc (t : Txn) (v : Lanes (BitVec 16)) : (t.setP v).desc = t.desc := rfl
@[simp] theorem Txn.setP_gl (t : Txn) (v : Lanes (BitVec 16)) : (t.setP v).gl = t.gl := rfl
@[simp] theorem Txn.setP_lzmask (t : Txn) (v : Lanes (BitVec 16)) : (t.setP v).lzmask = t.lzmask := rfl
@[simp] theorem Txn.setP_cl (t : Txn) (v : Lanes (BitVec 16)) : (t.setP v).cl = t.cl := rfl
@[simp] theorem Txn.setP_dl (t : Txn) (v : Lanes (BitVec 16)) : (t.setP v).dl = t.dl := rfl
@[simp] theorem Txn.setP_p (t : Txn) (v : Lanes (BitVec 16)) : (t.setP v).p = some v := rfl
@[simp] theorem Txn.setP_ps (t : Txn) (v : Lanes (BitVec 16)) : (t.setP v).ps = t.ps := rfl
@[simp] theorem Txn.setP_s (t : Txn) (v : Lanes (BitVec 16)) : (t.setP v).s = t.s := rfl
@[simp] theorem Txn.setP_b (t : Txn) (v : Lanes (BitVec 16)) : (t.setP v).b = t.b := rfl
@[simp] theorem Txn.setP_res (t : Txn) (v : Lanes (BitVec 16)) : (t.setP v).res = t.res := rfl
@[simp] theorem Txn.setP_ok (t : Txn) (v : Lanes (BitVec 16)) : (t.setP v).ok = t.ok := rfl
@[simp] theorem Txn.setP_g0 (t : Txn) (v : Lanes (BitVec 16)) : (t.setP v).g0 = t.g0 := rfl
@[simp] theorem Txn.setP_g1 (t : Txn) (v : Lanes (BitVec 16)) : (t.setP v).g1 = t.g1 := rfl
@[simp] theorem Txn.setP_g2 (t : Txn) (v : Lanes (BitVec 16)) : (t.setP v).g2 = t.g2 := rfl
@[simp] theorem Txn.setP_g3 (t : Txn) (v : Lanes (BitVec 16)) : (t.setP v).g3 = t.g3 := rfl
@[simp] theorem Txn.setP_g4 (t : Txn) (v : Lanes (BitVec 16)) : (t.setP v).g4 = t.g4 := rfl
@[simp] theorem Txn.setP_g5 (t : Txn) (v : Lanes (BitVec 16)) : (t.setP v).g5 = t.g5 := rfl
@[simp] theorem Txn.setPs_stage (t : Txn) (v : Vector (BitVec 16) 8) : (t.setPs v).stage = t.stage := rfl
@[simp] theorem Txn.setPs_w (t : Txn) (v : Vector (BitVec 16) 8) : (t.setPs v).w = t.w := rfl
@[simp] theorem Txn.setPs_len (t : Txn) (v : Vector (BitVec 16) 8) : (t.setPs v).len = t.len := rfl
@[simp] theorem Txn.setPs_cmp (t : Txn) (v : Vector (BitVec 16) 8) : (t.setPs v).cmp = t.cmp := rfl
@[simp] theorem Txn.setPs_rawbm (t : Txn) (v : Vector (BitVec 16) 8) : (t.setPs v).rawbm = t.rawbm := rfl
@[simp] theorem Txn.setPs_bm (t : Txn) (v : Vector (BitVec 16) 8) : (t.setPs v).bm = t.bm := rfl
@[simp] theorem Txn.setPs_prod (t : Txn) (v : Vector (BitVec 16) 8) : (t.setPs v).prod = t.prod := rfl
@[simp] theorem Txn.setPs_hc (t : Txn) (v : Vector (BitVec 16) 8) : (t.setPs v).hc = t.hc := rfl
@[simp] theorem Txn.setPs_pid (t : Txn) (v : Vector (BitVec 16) 8) : (t.setPs v).pid = t.pid := rfl
@[simp] theorem Txn.setPs_desc (t : Txn) (v : Vector (BitVec 16) 8) : (t.setPs v).desc = t.desc := rfl
@[simp] theorem Txn.setPs_gl (t : Txn) (v : Vector (BitVec 16) 8) : (t.setPs v).gl = t.gl := rfl
@[simp] theorem Txn.setPs_lzmask (t : Txn) (v : Vector (BitVec 16) 8) : (t.setPs v).lzmask = t.lzmask := rfl
@[simp] theorem Txn.setPs_cl (t : Txn) (v : Vector (BitVec 16) 8) : (t.setPs v).cl = t.cl := rfl
@[simp] theorem Txn.setPs_dl (t : Txn) (v : Vector (BitVec 16) 8) : (t.setPs v).dl = t.dl := rfl
@[simp] theorem Txn.setPs_p (t : Txn) (v : Vector (BitVec 16) 8) : (t.setPs v).p = t.p := rfl
@[simp] theorem Txn.setPs_ps (t : Txn) (v : Vector (BitVec 16) 8) : (t.setPs v).ps = some v := rfl
@[simp] theorem Txn.setPs_s (t : Txn) (v : Vector (BitVec 16) 8) : (t.setPs v).s = t.s := rfl
@[simp] theorem Txn.setPs_b (t : Txn) (v : Vector (BitVec 16) 8) : (t.setPs v).b = t.b := rfl
@[simp] theorem Txn.setPs_res (t : Txn) (v : Vector (BitVec 16) 8) : (t.setPs v).res = t.res := rfl
@[simp] theorem Txn.setPs_ok (t : Txn) (v : Vector (BitVec 16) 8) : (t.setPs v).ok = t.ok := rfl
@[simp] theorem Txn.setPs_g0 (t : Txn) (v : Vector (BitVec 16) 8) : (t.setPs v).g0 = t.g0 := rfl
@[simp] theorem Txn.setPs_g1 (t : Txn) (v : Vector (BitVec 16) 8) : (t.setPs v).g1 = t.g1 := rfl
@[simp] theorem Txn.setPs_g2 (t : Txn) (v : Vector (BitVec 16) 8) : (t.setPs v).g2 = t.g2 := rfl
@[simp] theorem Txn.setPs_g3 (t : Txn) (v : Vector (BitVec 16) 8) : (t.setPs v).g3 = t.g3 := rfl
@[simp] theorem Txn.setPs_g4 (t : Txn) (v : Vector (BitVec 16) 8) : (t.setPs v).g4 = t.g4 := rfl
@[simp] theorem Txn.setPs_g5 (t : Txn) (v : Vector (BitVec 16) 8) : (t.setPs v).g5 = t.g5 := rfl
@[simp] theorem Txn.setS_stage (t : Txn) (v : Vector (BitVec 16) 4) : (t.setS v).stage = t.stage := rfl
@[simp] theorem Txn.setS_w (t : Txn) (v : Vector (BitVec 16) 4) : (t.setS v).w = t.w := rfl
@[simp] theorem Txn.setS_len (t : Txn) (v : Vector (BitVec 16) 4) : (t.setS v).len = t.len := rfl
@[simp] theorem Txn.setS_cmp (t : Txn) (v : Vector (BitVec 16) 4) : (t.setS v).cmp = t.cmp := rfl
@[simp] theorem Txn.setS_rawbm (t : Txn) (v : Vector (BitVec 16) 4) : (t.setS v).rawbm = t.rawbm := rfl
@[simp] theorem Txn.setS_bm (t : Txn) (v : Vector (BitVec 16) 4) : (t.setS v).bm = t.bm := rfl
@[simp] theorem Txn.setS_prod (t : Txn) (v : Vector (BitVec 16) 4) : (t.setS v).prod = t.prod := rfl
@[simp] theorem Txn.setS_hc (t : Txn) (v : Vector (BitVec 16) 4) : (t.setS v).hc = t.hc := rfl
@[simp] theorem Txn.setS_pid (t : Txn) (v : Vector (BitVec 16) 4) : (t.setS v).pid = t.pid := rfl
@[simp] theorem Txn.setS_desc (t : Txn) (v : Vector (BitVec 16) 4) : (t.setS v).desc = t.desc := rfl
@[simp] theorem Txn.setS_gl (t : Txn) (v : Vector (BitVec 16) 4) : (t.setS v).gl = t.gl := rfl
@[simp] theorem Txn.setS_lzmask (t : Txn) (v : Vector (BitVec 16) 4) : (t.setS v).lzmask = t.lzmask := rfl
@[simp] theorem Txn.setS_cl (t : Txn) (v : Vector (BitVec 16) 4) : (t.setS v).cl = t.cl := rfl
@[simp] theorem Txn.setS_dl (t : Txn) (v : Vector (BitVec 16) 4) : (t.setS v).dl = t.dl := rfl
@[simp] theorem Txn.setS_p (t : Txn) (v : Vector (BitVec 16) 4) : (t.setS v).p = t.p := rfl
@[simp] theorem Txn.setS_ps (t : Txn) (v : Vector (BitVec 16) 4) : (t.setS v).ps = t.ps := rfl
@[simp] theorem Txn.setS_s (t : Txn) (v : Vector (BitVec 16) 4) : (t.setS v).s = some v := rfl
@[simp] theorem Txn.setS_b (t : Txn) (v : Vector (BitVec 16) 4) : (t.setS v).b = t.b := rfl
@[simp] theorem Txn.setS_res (t : Txn) (v : Vector (BitVec 16) 4) : (t.setS v).res = t.res := rfl
@[simp] theorem Txn.setS_ok (t : Txn) (v : Vector (BitVec 16) 4) : (t.setS v).ok = t.ok := rfl
@[simp] theorem Txn.setS_g0 (t : Txn) (v : Vector (BitVec 16) 4) : (t.setS v).g0 = t.g0 := rfl
@[simp] theorem Txn.setS_g1 (t : Txn) (v : Vector (BitVec 16) 4) : (t.setS v).g1 = t.g1 := rfl
@[simp] theorem Txn.setS_g2 (t : Txn) (v : Vector (BitVec 16) 4) : (t.setS v).g2 = t.g2 := rfl
@[simp] theorem Txn.setS_g3 (t : Txn) (v : Vector (BitVec 16) 4) : (t.setS v).g3 = t.g3 := rfl
@[simp] theorem Txn.setS_g4 (t : Txn) (v : Vector (BitVec 16) 4) : (t.setS v).g4 = t.g4 := rfl
@[simp] theorem Txn.setS_g5 (t : Txn) (v : Vector (BitVec 16) 4) : (t.setS v).g5 = t.g5 := rfl
@[simp] theorem Txn.setB_stage (t : Txn) (v : Vector Byte 4) : (t.setB v).stage = t.stage := rfl
@[simp] theorem Txn.setB_w (t : Txn) (v : Vector Byte 4) : (t.setB v).w = t.w := rfl
@[simp] theorem Txn.setB_len (t : Txn) (v : Vector Byte 4) : (t.setB v).len = t.len := rfl
@[simp] theorem Txn.setB_cmp (t : Txn) (v : Vector Byte 4) : (t.setB v).cmp = t.cmp := rfl
@[simp] theorem Txn.setB_rawbm (t : Txn) (v : Vector Byte 4) : (t.setB v).rawbm = t.rawbm := rfl
@[simp] theorem Txn.setB_bm (t : Txn) (v : Vector Byte 4) : (t.setB v).bm = t.bm := rfl
@[simp] theorem Txn.setB_prod (t : Txn) (v : Vector Byte 4) : (t.setB v).prod = t.prod := rfl
@[simp] theorem Txn.setB_hc (t : Txn) (v : Vector Byte 4) : (t.setB v).hc = t.hc := rfl
@[simp] theorem Txn.setB_pid (t : Txn) (v : Vector Byte 4) : (t.setB v).pid = t.pid := rfl
@[simp] theorem Txn.setB_desc (t : Txn) (v : Vector Byte 4) : (t.setB v).desc = t.desc := rfl
@[simp] theorem Txn.setB_gl (t : Txn) (v : Vector Byte 4) : (t.setB v).gl = t.gl := rfl
@[simp] theorem Txn.setB_lzmask (t : Txn) (v : Vector Byte 4) : (t.setB v).lzmask = t.lzmask := rfl
@[simp] theorem Txn.setB_cl (t : Txn) (v : Vector Byte 4) : (t.setB v).cl = t.cl := rfl
@[simp] theorem Txn.setB_dl (t : Txn) (v : Vector Byte 4) : (t.setB v).dl = t.dl := rfl
@[simp] theorem Txn.setB_p (t : Txn) (v : Vector Byte 4) : (t.setB v).p = t.p := rfl
@[simp] theorem Txn.setB_ps (t : Txn) (v : Vector Byte 4) : (t.setB v).ps = t.ps := rfl
@[simp] theorem Txn.setB_s (t : Txn) (v : Vector Byte 4) : (t.setB v).s = t.s := rfl
@[simp] theorem Txn.setB_b (t : Txn) (v : Vector Byte 4) : (t.setB v).b = some v := rfl
@[simp] theorem Txn.setB_res (t : Txn) (v : Vector Byte 4) : (t.setB v).res = t.res := rfl
@[simp] theorem Txn.setB_ok (t : Txn) (v : Vector Byte 4) : (t.setB v).ok = t.ok := rfl
@[simp] theorem Txn.setB_g0 (t : Txn) (v : Vector Byte 4) : (t.setB v).g0 = t.g0 := rfl
@[simp] theorem Txn.setB_g1 (t : Txn) (v : Vector Byte 4) : (t.setB v).g1 = t.g1 := rfl
@[simp] theorem Txn.setB_g2 (t : Txn) (v : Vector Byte 4) : (t.setB v).g2 = t.g2 := rfl
@[simp] theorem Txn.setB_g3 (t : Txn) (v : Vector Byte 4) : (t.setB v).g3 = t.g3 := rfl
@[simp] theorem Txn.setB_g4 (t : Txn) (v : Vector Byte 4) : (t.setB v).g4 = t.g4 := rfl
@[simp] theorem Txn.setB_g5 (t : Txn) (v : Vector Byte 4) : (t.setB v).g5 = t.g5 := rfl
@[simp] theorem Txn.setRes_stage (t : Txn) (v : BitVec 32) : (t.setRes v).stage = t.stage := rfl
@[simp] theorem Txn.setRes_w (t : Txn) (v : BitVec 32) : (t.setRes v).w = t.w := rfl
@[simp] theorem Txn.setRes_len (t : Txn) (v : BitVec 32) : (t.setRes v).len = t.len := rfl
@[simp] theorem Txn.setRes_cmp (t : Txn) (v : BitVec 32) : (t.setRes v).cmp = t.cmp := rfl
@[simp] theorem Txn.setRes_rawbm (t : Txn) (v : BitVec 32) : (t.setRes v).rawbm = t.rawbm := rfl
@[simp] theorem Txn.setRes_bm (t : Txn) (v : BitVec 32) : (t.setRes v).bm = t.bm := rfl
@[simp] theorem Txn.setRes_prod (t : Txn) (v : BitVec 32) : (t.setRes v).prod = t.prod := rfl
@[simp] theorem Txn.setRes_hc (t : Txn) (v : BitVec 32) : (t.setRes v).hc = t.hc := rfl
@[simp] theorem Txn.setRes_pid (t : Txn) (v : BitVec 32) : (t.setRes v).pid = t.pid := rfl
@[simp] theorem Txn.setRes_desc (t : Txn) (v : BitVec 32) : (t.setRes v).desc = t.desc := rfl
@[simp] theorem Txn.setRes_gl (t : Txn) (v : BitVec 32) : (t.setRes v).gl = t.gl := rfl
@[simp] theorem Txn.setRes_lzmask (t : Txn) (v : BitVec 32) : (t.setRes v).lzmask = t.lzmask := rfl
@[simp] theorem Txn.setRes_cl (t : Txn) (v : BitVec 32) : (t.setRes v).cl = t.cl := rfl
@[simp] theorem Txn.setRes_dl (t : Txn) (v : BitVec 32) : (t.setRes v).dl = t.dl := rfl
@[simp] theorem Txn.setRes_p (t : Txn) (v : BitVec 32) : (t.setRes v).p = t.p := rfl
@[simp] theorem Txn.setRes_ps (t : Txn) (v : BitVec 32) : (t.setRes v).ps = t.ps := rfl
@[simp] theorem Txn.setRes_s (t : Txn) (v : BitVec 32) : (t.setRes v).s = t.s := rfl
@[simp] theorem Txn.setRes_b (t : Txn) (v : BitVec 32) : (t.setRes v).b = t.b := rfl
@[simp] theorem Txn.setRes_res (t : Txn) (v : BitVec 32) : (t.setRes v).res = some v := rfl
@[simp] theorem Txn.setRes_ok (t : Txn) (v : BitVec 32) : (t.setRes v).ok = t.ok := rfl
@[simp] theorem Txn.setRes_g0 (t : Txn) (v : BitVec 32) : (t.setRes v).g0 = t.g0 := rfl
@[simp] theorem Txn.setRes_g1 (t : Txn) (v : BitVec 32) : (t.setRes v).g1 = t.g1 := rfl
@[simp] theorem Txn.setRes_g2 (t : Txn) (v : BitVec 32) : (t.setRes v).g2 = t.g2 := rfl
@[simp] theorem Txn.setRes_g3 (t : Txn) (v : BitVec 32) : (t.setRes v).g3 = t.g3 := rfl
@[simp] theorem Txn.setRes_g4 (t : Txn) (v : BitVec 32) : (t.setRes v).g4 = t.g4 := rfl
@[simp] theorem Txn.setRes_g5 (t : Txn) (v : BitVec 32) : (t.setRes v).g5 = t.g5 := rfl
@[simp] theorem Txn.setOk_stage (t : Txn) (v : Bool) : (t.setOk v).stage = t.stage := rfl
@[simp] theorem Txn.setOk_w (t : Txn) (v : Bool) : (t.setOk v).w = t.w := rfl
@[simp] theorem Txn.setOk_len (t : Txn) (v : Bool) : (t.setOk v).len = t.len := rfl
@[simp] theorem Txn.setOk_cmp (t : Txn) (v : Bool) : (t.setOk v).cmp = t.cmp := rfl
@[simp] theorem Txn.setOk_rawbm (t : Txn) (v : Bool) : (t.setOk v).rawbm = t.rawbm := rfl
@[simp] theorem Txn.setOk_bm (t : Txn) (v : Bool) : (t.setOk v).bm = t.bm := rfl
@[simp] theorem Txn.setOk_prod (t : Txn) (v : Bool) : (t.setOk v).prod = t.prod := rfl
@[simp] theorem Txn.setOk_hc (t : Txn) (v : Bool) : (t.setOk v).hc = t.hc := rfl
@[simp] theorem Txn.setOk_pid (t : Txn) (v : Bool) : (t.setOk v).pid = t.pid := rfl
@[simp] theorem Txn.setOk_desc (t : Txn) (v : Bool) : (t.setOk v).desc = t.desc := rfl
@[simp] theorem Txn.setOk_gl (t : Txn) (v : Bool) : (t.setOk v).gl = t.gl := rfl
@[simp] theorem Txn.setOk_lzmask (t : Txn) (v : Bool) : (t.setOk v).lzmask = t.lzmask := rfl
@[simp] theorem Txn.setOk_cl (t : Txn) (v : Bool) : (t.setOk v).cl = t.cl := rfl
@[simp] theorem Txn.setOk_dl (t : Txn) (v : Bool) : (t.setOk v).dl = t.dl := rfl
@[simp] theorem Txn.setOk_p (t : Txn) (v : Bool) : (t.setOk v).p = t.p := rfl
@[simp] theorem Txn.setOk_ps (t : Txn) (v : Bool) : (t.setOk v).ps = t.ps := rfl
@[simp] theorem Txn.setOk_s (t : Txn) (v : Bool) : (t.setOk v).s = t.s := rfl
@[simp] theorem Txn.setOk_b (t : Txn) (v : Bool) : (t.setOk v).b = t.b := rfl
@[simp] theorem Txn.setOk_res (t : Txn) (v : Bool) : (t.setOk v).res = t.res := rfl
@[simp] theorem Txn.setOk_ok (t : Txn) (v : Bool) : (t.setOk v).ok = some v := rfl
@[simp] theorem Txn.setOk_g0 (t : Txn) (v : Bool) : (t.setOk v).g0 = t.g0 := rfl
@[simp] theorem Txn.setOk_g1 (t : Txn) (v : Bool) : (t.setOk v).g1 = t.g1 := rfl
@[simp] theorem Txn.setOk_g2 (t : Txn) (v : Bool) : (t.setOk v).g2 = t.g2 := rfl
@[simp] theorem Txn.setOk_g3 (t : Txn) (v : Bool) : (t.setOk v).g3 = t.g3 := rfl
@[simp] theorem Txn.setOk_g4 (t : Txn) (v : Bool) : (t.setOk v).g4 = t.g4 := rfl
@[simp] theorem Txn.setOk_g5 (t : Txn) (v : Bool) : (t.setOk v).g5 = t.g5 := rfl
@[simp] theorem Txn.setG0_stage (t : Txn) (v : Bool) : (t.setG0 v).stage = t.stage := rfl
@[simp] theorem Txn.setG0_w (t : Txn) (v : Bool) : (t.setG0 v).w = t.w := rfl
@[simp] theorem Txn.setG0_len (t : Txn) (v : Bool) : (t.setG0 v).len = t.len := rfl
@[simp] theorem Txn.setG0_cmp (t : Txn) (v : Bool) : (t.setG0 v).cmp = t.cmp := rfl
@[simp] theorem Txn.setG0_rawbm (t : Txn) (v : Bool) : (t.setG0 v).rawbm = t.rawbm := rfl
@[simp] theorem Txn.setG0_bm (t : Txn) (v : Bool) : (t.setG0 v).bm = t.bm := rfl
@[simp] theorem Txn.setG0_prod (t : Txn) (v : Bool) : (t.setG0 v).prod = t.prod := rfl
@[simp] theorem Txn.setG0_hc (t : Txn) (v : Bool) : (t.setG0 v).hc = t.hc := rfl
@[simp] theorem Txn.setG0_pid (t : Txn) (v : Bool) : (t.setG0 v).pid = t.pid := rfl
@[simp] theorem Txn.setG0_desc (t : Txn) (v : Bool) : (t.setG0 v).desc = t.desc := rfl
@[simp] theorem Txn.setG0_gl (t : Txn) (v : Bool) : (t.setG0 v).gl = t.gl := rfl
@[simp] theorem Txn.setG0_lzmask (t : Txn) (v : Bool) : (t.setG0 v).lzmask = t.lzmask := rfl
@[simp] theorem Txn.setG0_cl (t : Txn) (v : Bool) : (t.setG0 v).cl = t.cl := rfl
@[simp] theorem Txn.setG0_dl (t : Txn) (v : Bool) : (t.setG0 v).dl = t.dl := rfl
@[simp] theorem Txn.setG0_p (t : Txn) (v : Bool) : (t.setG0 v).p = t.p := rfl
@[simp] theorem Txn.setG0_ps (t : Txn) (v : Bool) : (t.setG0 v).ps = t.ps := rfl
@[simp] theorem Txn.setG0_s (t : Txn) (v : Bool) : (t.setG0 v).s = t.s := rfl
@[simp] theorem Txn.setG0_b (t : Txn) (v : Bool) : (t.setG0 v).b = t.b := rfl
@[simp] theorem Txn.setG0_res (t : Txn) (v : Bool) : (t.setG0 v).res = t.res := rfl
@[simp] theorem Txn.setG0_ok (t : Txn) (v : Bool) : (t.setG0 v).ok = t.ok := rfl
@[simp] theorem Txn.setG0_g0 (t : Txn) (v : Bool) : (t.setG0 v).g0 = some v := rfl
@[simp] theorem Txn.setG0_g1 (t : Txn) (v : Bool) : (t.setG0 v).g1 = t.g1 := rfl
@[simp] theorem Txn.setG0_g2 (t : Txn) (v : Bool) : (t.setG0 v).g2 = t.g2 := rfl
@[simp] theorem Txn.setG0_g3 (t : Txn) (v : Bool) : (t.setG0 v).g3 = t.g3 := rfl
@[simp] theorem Txn.setG0_g4 (t : Txn) (v : Bool) : (t.setG0 v).g4 = t.g4 := rfl
@[simp] theorem Txn.setG0_g5 (t : Txn) (v : Bool) : (t.setG0 v).g5 = t.g5 := rfl
@[simp] theorem Txn.setG1_stage (t : Txn) (v : Bool) : (t.setG1 v).stage = t.stage := rfl
@[simp] theorem Txn.setG1_w (t : Txn) (v : Bool) : (t.setG1 v).w = t.w := rfl
@[simp] theorem Txn.setG1_len (t : Txn) (v : Bool) : (t.setG1 v).len = t.len := rfl
@[simp] theorem Txn.setG1_cmp (t : Txn) (v : Bool) : (t.setG1 v).cmp = t.cmp := rfl
@[simp] theorem Txn.setG1_rawbm (t : Txn) (v : Bool) : (t.setG1 v).rawbm = t.rawbm := rfl
@[simp] theorem Txn.setG1_bm (t : Txn) (v : Bool) : (t.setG1 v).bm = t.bm := rfl
@[simp] theorem Txn.setG1_prod (t : Txn) (v : Bool) : (t.setG1 v).prod = t.prod := rfl
@[simp] theorem Txn.setG1_hc (t : Txn) (v : Bool) : (t.setG1 v).hc = t.hc := rfl
@[simp] theorem Txn.setG1_pid (t : Txn) (v : Bool) : (t.setG1 v).pid = t.pid := rfl
@[simp] theorem Txn.setG1_desc (t : Txn) (v : Bool) : (t.setG1 v).desc = t.desc := rfl
@[simp] theorem Txn.setG1_gl (t : Txn) (v : Bool) : (t.setG1 v).gl = t.gl := rfl
@[simp] theorem Txn.setG1_lzmask (t : Txn) (v : Bool) : (t.setG1 v).lzmask = t.lzmask := rfl
@[simp] theorem Txn.setG1_cl (t : Txn) (v : Bool) : (t.setG1 v).cl = t.cl := rfl
@[simp] theorem Txn.setG1_dl (t : Txn) (v : Bool) : (t.setG1 v).dl = t.dl := rfl
@[simp] theorem Txn.setG1_p (t : Txn) (v : Bool) : (t.setG1 v).p = t.p := rfl
@[simp] theorem Txn.setG1_ps (t : Txn) (v : Bool) : (t.setG1 v).ps = t.ps := rfl
@[simp] theorem Txn.setG1_s (t : Txn) (v : Bool) : (t.setG1 v).s = t.s := rfl
@[simp] theorem Txn.setG1_b (t : Txn) (v : Bool) : (t.setG1 v).b = t.b := rfl
@[simp] theorem Txn.setG1_res (t : Txn) (v : Bool) : (t.setG1 v).res = t.res := rfl
@[simp] theorem Txn.setG1_ok (t : Txn) (v : Bool) : (t.setG1 v).ok = t.ok := rfl
@[simp] theorem Txn.setG1_g0 (t : Txn) (v : Bool) : (t.setG1 v).g0 = t.g0 := rfl
@[simp] theorem Txn.setG1_g1 (t : Txn) (v : Bool) : (t.setG1 v).g1 = some v := rfl
@[simp] theorem Txn.setG1_g2 (t : Txn) (v : Bool) : (t.setG1 v).g2 = t.g2 := rfl
@[simp] theorem Txn.setG1_g3 (t : Txn) (v : Bool) : (t.setG1 v).g3 = t.g3 := rfl
@[simp] theorem Txn.setG1_g4 (t : Txn) (v : Bool) : (t.setG1 v).g4 = t.g4 := rfl
@[simp] theorem Txn.setG1_g5 (t : Txn) (v : Bool) : (t.setG1 v).g5 = t.g5 := rfl
@[simp] theorem Txn.setG2_stage (t : Txn) (v : Bool) : (t.setG2 v).stage = t.stage := rfl
@[simp] theorem Txn.setG2_w (t : Txn) (v : Bool) : (t.setG2 v).w = t.w := rfl
@[simp] theorem Txn.setG2_len (t : Txn) (v : Bool) : (t.setG2 v).len = t.len := rfl
@[simp] theorem Txn.setG2_cmp (t : Txn) (v : Bool) : (t.setG2 v).cmp = t.cmp := rfl
@[simp] theorem Txn.setG2_rawbm (t : Txn) (v : Bool) : (t.setG2 v).rawbm = t.rawbm := rfl
@[simp] theorem Txn.setG2_bm (t : Txn) (v : Bool) : (t.setG2 v).bm = t.bm := rfl
@[simp] theorem Txn.setG2_prod (t : Txn) (v : Bool) : (t.setG2 v).prod = t.prod := rfl
@[simp] theorem Txn.setG2_hc (t : Txn) (v : Bool) : (t.setG2 v).hc = t.hc := rfl
@[simp] theorem Txn.setG2_pid (t : Txn) (v : Bool) : (t.setG2 v).pid = t.pid := rfl
@[simp] theorem Txn.setG2_desc (t : Txn) (v : Bool) : (t.setG2 v).desc = t.desc := rfl
@[simp] theorem Txn.setG2_gl (t : Txn) (v : Bool) : (t.setG2 v).gl = t.gl := rfl
@[simp] theorem Txn.setG2_lzmask (t : Txn) (v : Bool) : (t.setG2 v).lzmask = t.lzmask := rfl
@[simp] theorem Txn.setG2_cl (t : Txn) (v : Bool) : (t.setG2 v).cl = t.cl := rfl
@[simp] theorem Txn.setG2_dl (t : Txn) (v : Bool) : (t.setG2 v).dl = t.dl := rfl
@[simp] theorem Txn.setG2_p (t : Txn) (v : Bool) : (t.setG2 v).p = t.p := rfl
@[simp] theorem Txn.setG2_ps (t : Txn) (v : Bool) : (t.setG2 v).ps = t.ps := rfl
@[simp] theorem Txn.setG2_s (t : Txn) (v : Bool) : (t.setG2 v).s = t.s := rfl
@[simp] theorem Txn.setG2_b (t : Txn) (v : Bool) : (t.setG2 v).b = t.b := rfl
@[simp] theorem Txn.setG2_res (t : Txn) (v : Bool) : (t.setG2 v).res = t.res := rfl
@[simp] theorem Txn.setG2_ok (t : Txn) (v : Bool) : (t.setG2 v).ok = t.ok := rfl
@[simp] theorem Txn.setG2_g0 (t : Txn) (v : Bool) : (t.setG2 v).g0 = t.g0 := rfl
@[simp] theorem Txn.setG2_g1 (t : Txn) (v : Bool) : (t.setG2 v).g1 = t.g1 := rfl
@[simp] theorem Txn.setG2_g2 (t : Txn) (v : Bool) : (t.setG2 v).g2 = some v := rfl
@[simp] theorem Txn.setG2_g3 (t : Txn) (v : Bool) : (t.setG2 v).g3 = t.g3 := rfl
@[simp] theorem Txn.setG2_g4 (t : Txn) (v : Bool) : (t.setG2 v).g4 = t.g4 := rfl
@[simp] theorem Txn.setG2_g5 (t : Txn) (v : Bool) : (t.setG2 v).g5 = t.g5 := rfl
@[simp] theorem Txn.setG3_stage (t : Txn) (v : Bool) : (t.setG3 v).stage = t.stage := rfl
@[simp] theorem Txn.setG3_w (t : Txn) (v : Bool) : (t.setG3 v).w = t.w := rfl
@[simp] theorem Txn.setG3_len (t : Txn) (v : Bool) : (t.setG3 v).len = t.len := rfl
@[simp] theorem Txn.setG3_cmp (t : Txn) (v : Bool) : (t.setG3 v).cmp = t.cmp := rfl
@[simp] theorem Txn.setG3_rawbm (t : Txn) (v : Bool) : (t.setG3 v).rawbm = t.rawbm := rfl
@[simp] theorem Txn.setG3_bm (t : Txn) (v : Bool) : (t.setG3 v).bm = t.bm := rfl
@[simp] theorem Txn.setG3_prod (t : Txn) (v : Bool) : (t.setG3 v).prod = t.prod := rfl
@[simp] theorem Txn.setG3_hc (t : Txn) (v : Bool) : (t.setG3 v).hc = t.hc := rfl
@[simp] theorem Txn.setG3_pid (t : Txn) (v : Bool) : (t.setG3 v).pid = t.pid := rfl
@[simp] theorem Txn.setG3_desc (t : Txn) (v : Bool) : (t.setG3 v).desc = t.desc := rfl
@[simp] theorem Txn.setG3_gl (t : Txn) (v : Bool) : (t.setG3 v).gl = t.gl := rfl
@[simp] theorem Txn.setG3_lzmask (t : Txn) (v : Bool) : (t.setG3 v).lzmask = t.lzmask := rfl
@[simp] theorem Txn.setG3_cl (t : Txn) (v : Bool) : (t.setG3 v).cl = t.cl := rfl
@[simp] theorem Txn.setG3_dl (t : Txn) (v : Bool) : (t.setG3 v).dl = t.dl := rfl
@[simp] theorem Txn.setG3_p (t : Txn) (v : Bool) : (t.setG3 v).p = t.p := rfl
@[simp] theorem Txn.setG3_ps (t : Txn) (v : Bool) : (t.setG3 v).ps = t.ps := rfl
@[simp] theorem Txn.setG3_s (t : Txn) (v : Bool) : (t.setG3 v).s = t.s := rfl
@[simp] theorem Txn.setG3_b (t : Txn) (v : Bool) : (t.setG3 v).b = t.b := rfl
@[simp] theorem Txn.setG3_res (t : Txn) (v : Bool) : (t.setG3 v).res = t.res := rfl
@[simp] theorem Txn.setG3_ok (t : Txn) (v : Bool) : (t.setG3 v).ok = t.ok := rfl
@[simp] theorem Txn.setG3_g0 (t : Txn) (v : Bool) : (t.setG3 v).g0 = t.g0 := rfl
@[simp] theorem Txn.setG3_g1 (t : Txn) (v : Bool) : (t.setG3 v).g1 = t.g1 := rfl
@[simp] theorem Txn.setG3_g2 (t : Txn) (v : Bool) : (t.setG3 v).g2 = t.g2 := rfl
@[simp] theorem Txn.setG3_g3 (t : Txn) (v : Bool) : (t.setG3 v).g3 = some v := rfl
@[simp] theorem Txn.setG3_g4 (t : Txn) (v : Bool) : (t.setG3 v).g4 = t.g4 := rfl
@[simp] theorem Txn.setG3_g5 (t : Txn) (v : Bool) : (t.setG3 v).g5 = t.g5 := rfl
@[simp] theorem Txn.setG4_stage (t : Txn) (v : Bool) : (t.setG4 v).stage = t.stage := rfl
@[simp] theorem Txn.setG4_w (t : Txn) (v : Bool) : (t.setG4 v).w = t.w := rfl
@[simp] theorem Txn.setG4_len (t : Txn) (v : Bool) : (t.setG4 v).len = t.len := rfl
@[simp] theorem Txn.setG4_cmp (t : Txn) (v : Bool) : (t.setG4 v).cmp = t.cmp := rfl
@[simp] theorem Txn.setG4_rawbm (t : Txn) (v : Bool) : (t.setG4 v).rawbm = t.rawbm := rfl
@[simp] theorem Txn.setG4_bm (t : Txn) (v : Bool) : (t.setG4 v).bm = t.bm := rfl
@[simp] theorem Txn.setG4_prod (t : Txn) (v : Bool) : (t.setG4 v).prod = t.prod := rfl
@[simp] theorem Txn.setG4_hc (t : Txn) (v : Bool) : (t.setG4 v).hc = t.hc := rfl
@[simp] theorem Txn.setG4_pid (t : Txn) (v : Bool) : (t.setG4 v).pid = t.pid := rfl
@[simp] theorem Txn.setG4_desc (t : Txn) (v : Bool) : (t.setG4 v).desc = t.desc := rfl
@[simp] theorem Txn.setG4_gl (t : Txn) (v : Bool) : (t.setG4 v).gl = t.gl := rfl
@[simp] theorem Txn.setG4_lzmask (t : Txn) (v : Bool) : (t.setG4 v).lzmask = t.lzmask := rfl
@[simp] theorem Txn.setG4_cl (t : Txn) (v : Bool) : (t.setG4 v).cl = t.cl := rfl
@[simp] theorem Txn.setG4_dl (t : Txn) (v : Bool) : (t.setG4 v).dl = t.dl := rfl
@[simp] theorem Txn.setG4_p (t : Txn) (v : Bool) : (t.setG4 v).p = t.p := rfl
@[simp] theorem Txn.setG4_ps (t : Txn) (v : Bool) : (t.setG4 v).ps = t.ps := rfl
@[simp] theorem Txn.setG4_s (t : Txn) (v : Bool) : (t.setG4 v).s = t.s := rfl
@[simp] theorem Txn.setG4_b (t : Txn) (v : Bool) : (t.setG4 v).b = t.b := rfl
@[simp] theorem Txn.setG4_res (t : Txn) (v : Bool) : (t.setG4 v).res = t.res := rfl
@[simp] theorem Txn.setG4_ok (t : Txn) (v : Bool) : (t.setG4 v).ok = t.ok := rfl
@[simp] theorem Txn.setG4_g0 (t : Txn) (v : Bool) : (t.setG4 v).g0 = t.g0 := rfl
@[simp] theorem Txn.setG4_g1 (t : Txn) (v : Bool) : (t.setG4 v).g1 = t.g1 := rfl
@[simp] theorem Txn.setG4_g2 (t : Txn) (v : Bool) : (t.setG4 v).g2 = t.g2 := rfl
@[simp] theorem Txn.setG4_g3 (t : Txn) (v : Bool) : (t.setG4 v).g3 = t.g3 := rfl
@[simp] theorem Txn.setG4_g4 (t : Txn) (v : Bool) : (t.setG4 v).g4 = some v := rfl
@[simp] theorem Txn.setG4_g5 (t : Txn) (v : Bool) : (t.setG4 v).g5 = t.g5 := rfl
@[simp] theorem Txn.setG5_stage (t : Txn) (v : Bool) : (t.setG5 v).stage = t.stage := rfl
@[simp] theorem Txn.setG5_w (t : Txn) (v : Bool) : (t.setG5 v).w = t.w := rfl
@[simp] theorem Txn.setG5_len (t : Txn) (v : Bool) : (t.setG5 v).len = t.len := rfl
@[simp] theorem Txn.setG5_cmp (t : Txn) (v : Bool) : (t.setG5 v).cmp = t.cmp := rfl
@[simp] theorem Txn.setG5_rawbm (t : Txn) (v : Bool) : (t.setG5 v).rawbm = t.rawbm := rfl
@[simp] theorem Txn.setG5_bm (t : Txn) (v : Bool) : (t.setG5 v).bm = t.bm := rfl
@[simp] theorem Txn.setG5_prod (t : Txn) (v : Bool) : (t.setG5 v).prod = t.prod := rfl
@[simp] theorem Txn.setG5_hc (t : Txn) (v : Bool) : (t.setG5 v).hc = t.hc := rfl
@[simp] theorem Txn.setG5_pid (t : Txn) (v : Bool) : (t.setG5 v).pid = t.pid := rfl
@[simp] theorem Txn.setG5_desc (t : Txn) (v : Bool) : (t.setG5 v).desc = t.desc := rfl
@[simp] theorem Txn.setG5_gl (t : Txn) (v : Bool) : (t.setG5 v).gl = t.gl := rfl
@[simp] theorem Txn.setG5_lzmask (t : Txn) (v : Bool) : (t.setG5 v).lzmask = t.lzmask := rfl
@[simp] theorem Txn.setG5_cl (t : Txn) (v : Bool) : (t.setG5 v).cl = t.cl := rfl
@[simp] theorem Txn.setG5_dl (t : Txn) (v : Bool) : (t.setG5 v).dl = t.dl := rfl
@[simp] theorem Txn.setG5_p (t : Txn) (v : Bool) : (t.setG5 v).p = t.p := rfl
@[simp] theorem Txn.setG5_ps (t : Txn) (v : Bool) : (t.setG5 v).ps = t.ps := rfl
@[simp] theorem Txn.setG5_s (t : Txn) (v : Bool) : (t.setG5 v).s = t.s := rfl
@[simp] theorem Txn.setG5_b (t : Txn) (v : Bool) : (t.setG5 v).b = t.b := rfl
@[simp] theorem Txn.setG5_res (t : Txn) (v : Bool) : (t.setG5 v).res = t.res := rfl
@[simp] theorem Txn.setG5_ok (t : Txn) (v : Bool) : (t.setG5 v).ok = t.ok := rfl
@[simp] theorem Txn.setG5_g0 (t : Txn) (v : Bool) : (t.setG5 v).g0 = t.g0 := rfl
@[simp] theorem Txn.setG5_g1 (t : Txn) (v : Bool) : (t.setG5 v).g1 = t.g1 := rfl
@[simp] theorem Txn.setG5_g2 (t : Txn) (v : Bool) : (t.setG5 v).g2 = t.g2 := rfl
@[simp] theorem Txn.setG5_g3 (t : Txn) (v : Bool) : (t.setG5 v).g3 = t.g3 := rfl
@[simp] theorem Txn.setG5_g4 (t : Txn) (v : Bool) : (t.setG5 v).g4 = t.g4 := rfl
@[simp] theorem Txn.setG5_g5 (t : Txn) (v : Bool) : (t.setG5 v).g5 = some v := rfl
@[simp] theorem State.setTxn_win (st : State) (t : Txn) : (st.setTxn t).win = st.win := rfl
@[simp] theorem State.setTxn_length (st : State) (t : Txn) : (st.setTxn t).length = st.length := rfl
@[simp] theorem State.setTxn_hostBuf (st : State) (t : Txn) : (st.setTxn t).hostBuf = st.hostBuf := rfl
@[simp] theorem State.setTxn_hostLen (st : State) (t : Txn) : (st.setTxn t).hostLen = st.hostLen := rfl
@[simp] theorem State.setTxn_lenW (st : State) (t : Txn) : (st.setTxn t).lenW = st.lenW := rfl
@[simp] theorem State.setTxn_requests (st : State) (t : Txn) : (st.setTxn t).requests = st.requests := rfl
@[simp] theorem State.setTxn_byDecoder (st : State) (t : Txn) : (st.setTxn t).byDecoder = st.byDecoder := rfl
@[simp] theorem State.setTxn_txn (st : State) (t : Txn) : (st.setTxn t).txn = t := rfl
@[simp] theorem State.setTxn_pipe (st : State) (t : Txn) : (st.setTxn t).pipe = st.pipe := rfl
@[simp] theorem State.setTxn_drawn (st : State) (t : Txn) : (st.setTxn t).drawn = st.drawn := rfl
@[simp] theorem State.setWin_win (st : State) (m : Memory) : (st.setWin m).win = m := rfl
@[simp] theorem State.setWin_length (st : State) (m : Memory) : (st.setWin m).length = st.length := rfl
@[simp] theorem State.setWin_hostBuf (st : State) (m : Memory) : (st.setWin m).hostBuf = st.hostBuf := rfl
@[simp] theorem State.setWin_hostLen (st : State) (m : Memory) : (st.setWin m).hostLen = st.hostLen := rfl
@[simp] theorem State.setWin_lenW (st : State) (m : Memory) : (st.setWin m).lenW = st.lenW := rfl
@[simp] theorem State.setWin_requests (st : State) (m : Memory) : (st.setWin m).requests = st.requests := rfl
@[simp] theorem State.setWin_byDecoder (st : State) (m : Memory) : (st.setWin m).byDecoder = st.byDecoder := rfl
@[simp] theorem State.setWin_txn (st : State) (m : Memory) : (st.setWin m).txn = st.txn := rfl
@[simp] theorem State.setWin_pipe (st : State) (m : Memory) : (st.setWin m).pipe = st.pipe := rfl
@[simp] theorem State.setWin_drawn (st : State) (m : Memory) : (st.setWin m).drawn = st.drawn := rfl
@[simp] theorem State.setLength_win (st : State) (n : Nat) : (st.setLength n).win = st.win := rfl
@[simp] theorem State.setLength_length (st : State) (n : Nat) : (st.setLength n).length = n := rfl
@[simp] theorem State.setLength_hostBuf (st : State) (n : Nat) : (st.setLength n).hostBuf = st.hostBuf := rfl
@[simp] theorem State.setLength_hostLen (st : State) (n : Nat) : (st.setLength n).hostLen = st.hostLen := rfl
@[simp] theorem State.setLength_lenW (st : State) (n : Nat) : (st.setLength n).lenW = st.lenW := rfl
@[simp] theorem State.setLength_requests (st : State) (n : Nat) : (st.setLength n).requests = st.requests := rfl
@[simp] theorem State.setLength_byDecoder (st : State) (n : Nat) : (st.setLength n).byDecoder = st.byDecoder := rfl
@[simp] theorem State.setLength_txn (st : State) (n : Nat) : (st.setLength n).txn = st.txn := rfl
@[simp] theorem State.setLength_pipe (st : State) (n : Nat) : (st.setLength n).pipe = st.pipe := rfl
@[simp] theorem State.setLength_drawn (st : State) (n : Nat) : (st.setLength n).drawn = st.drawn := rfl
@[simp] theorem State.setHost_win (st : State) (m : Memory) (n : Nat) : (st.setHost m n).win = st.win := rfl
@[simp] theorem State.setHost_length (st : State) (m : Memory) (n : Nat) : (st.setHost m n).length = st.length := rfl
@[simp] theorem State.setHost_hostBuf (st : State) (m : Memory) (n : Nat) : (st.setHost m n).hostBuf = m := rfl
@[simp] theorem State.setHost_hostLen (st : State) (m : Memory) (n : Nat) : (st.setHost m n).hostLen = n := rfl
@[simp] theorem State.setHost_lenW (st : State) (m : Memory) (n : Nat) : (st.setHost m n).lenW = st.lenW := rfl
@[simp] theorem State.setHost_requests (st : State) (m : Memory) (n : Nat) : (st.setHost m n).requests = st.requests := rfl
@[simp] theorem State.setHost_byDecoder (st : State) (m : Memory) (n : Nat) : (st.setHost m n).byDecoder = st.byDecoder := rfl
@[simp] theorem State.setHost_txn (st : State) (m : Memory) (n : Nat) : (st.setHost m n).txn = st.txn := rfl
@[simp] theorem State.setHost_pipe (st : State) (m : Memory) (n : Nat) : (st.setHost m n).pipe = st.pipe := rfl
@[simp] theorem State.setHost_drawn (st : State) (m : Memory) (n : Nat) : (st.setHost m n).drawn = st.drawn := rfl
@[simp] theorem State.setRequests_win (st : State) (r : List Request) : (st.setRequests r).win = st.win := rfl
@[simp] theorem State.setRequests_length (st : State) (r : List Request) : (st.setRequests r).length = st.length := rfl
@[simp] theorem State.setRequests_hostBuf (st : State) (r : List Request) : (st.setRequests r).hostBuf = st.hostBuf := rfl
@[simp] theorem State.setRequests_hostLen (st : State) (r : List Request) : (st.setRequests r).hostLen = st.hostLen := rfl
@[simp] theorem State.setRequests_lenW (st : State) (r : List Request) : (st.setRequests r).lenW = st.lenW := rfl
@[simp] theorem State.setRequests_requests (st : State) (r : List Request) : (st.setRequests r).requests = r := rfl
@[simp] theorem State.setRequests_byDecoder (st : State) (r : List Request) : (st.setRequests r).byDecoder = st.byDecoder := rfl
@[simp] theorem State.setRequests_txn (st : State) (r : List Request) : (st.setRequests r).txn = st.txn := rfl
@[simp] theorem State.setRequests_pipe (st : State) (r : List Request) : (st.setRequests r).pipe = st.pipe := rfl
@[simp] theorem State.setRequests_drawn (st : State) (r : List Request) : (st.setRequests r).drawn = st.drawn := rfl
@[simp] theorem State.setByDecoder_win (st : State) (v : Bool) : (st.setByDecoder v).win = st.win := rfl
@[simp] theorem State.setByDecoder_length (st : State) (v : Bool) : (st.setByDecoder v).length = st.length := rfl
@[simp] theorem State.setByDecoder_hostBuf (st : State) (v : Bool) : (st.setByDecoder v).hostBuf = st.hostBuf := rfl
@[simp] theorem State.setByDecoder_hostLen (st : State) (v : Bool) : (st.setByDecoder v).hostLen = st.hostLen := rfl
@[simp] theorem State.setByDecoder_lenW (st : State) (v : Bool) : (st.setByDecoder v).lenW = st.lenW := rfl
@[simp] theorem State.setByDecoder_requests (st : State) (v : Bool) : (st.setByDecoder v).requests = st.requests := rfl
@[simp] theorem State.setByDecoder_byDecoder (st : State) (v : Bool) : (st.setByDecoder v).byDecoder = v := rfl
@[simp] theorem State.setByDecoder_txn (st : State) (v : Bool) : (st.setByDecoder v).txn = st.txn := rfl
@[simp] theorem State.setByDecoder_pipe (st : State) (v : Bool) : (st.setByDecoder v).pipe = st.pipe := rfl
@[simp] theorem State.setByDecoder_drawn (st : State) (v : Bool) : (st.setByDecoder v).drawn = st.drawn := rfl
@[simp] theorem State.setPipe_win (st : State) (r : List Rank) (k : Nat) : (st.setPipe r k).win = st.win := rfl
@[simp] theorem State.setPipe_length (st : State) (r : List Rank) (k : Nat) : (st.setPipe r k).length = st.length := rfl
@[simp] theorem State.setPipe_hostBuf (st : State) (r : List Rank) (k : Nat) : (st.setPipe r k).hostBuf = st.hostBuf := rfl
@[simp] theorem State.setPipe_hostLen (st : State) (r : List Rank) (k : Nat) : (st.setPipe r k).hostLen = st.hostLen := rfl
@[simp] theorem State.setPipe_lenW (st : State) (r : List Rank) (k : Nat) : (st.setPipe r k).lenW = st.lenW := rfl
@[simp] theorem State.setPipe_requests (st : State) (r : List Rank) (k : Nat) : (st.setPipe r k).requests = st.requests := rfl
@[simp] theorem State.setPipe_byDecoder (st : State) (r : List Rank) (k : Nat) : (st.setPipe r k).byDecoder = st.byDecoder := rfl
@[simp] theorem State.setPipe_txn (st : State) (r : List Rank) (k : Nat) : (st.setPipe r k).txn = st.txn := rfl
@[simp] theorem State.setPipe_pipe (st : State) (r : List Rank) (k : Nat) : (st.setPipe r k).pipe = r := rfl
@[simp] theorem State.setPipe_drawn (st : State) (r : List Rank) (k : Nat) : (st.setPipe r k).drawn = k := rfl

end Sys2Proof.Machine
end

