-- ==== Sys2Proof/Laws/Ops.lean ====
section
/-!
SUPPORT. One lemma for each shared operation, saying once everything it can do: a read of a datapath value, the move to the
next stage, a gate, a rejection, the start of a transaction, its end; and the view of what a transaction has produced.
-/

namespace Sys2Proof.Machine

open Sys2Proof

/-- A read of a value that has been written goes on with it. -/
@[simp] theorem need_some {α : Type} (x : α) (name : ValueName) (k : α → Out) : need (some x) name k = k x := rfl

/-- A read of a value that has not been written stops. -/
@[simp] theorem need_none {α : Type} (name : ValueName) (k : α → Out) :
    need (none : Option α) name k = .fault (.unwritten name) := rfl

/-- What a read that answers a next state has read. -/
theorem need_eq_next {α : Type} {v : Option α} {name : ValueName} {k : α → Out} {t : State}
    (h : need v name k = .next t) : ∃ x, v = some x ∧ k x = .next t := by
  cases v with
  | none => cases h
  | some x => exact ⟨x, rfl, h⟩

/-- A read refuses nothing of its own. -/
theorem need_ne_refused {α : Type} {v : Option α} {name : ValueName} {k : α → Out} {r : Refusal}
    (hk : ∀ x, k x ≠ .refused r) : need v name k ≠ .refused r := by
  cases v with
  | none => intro h; cases h
  | some x => exact hk x

/-- The move to the next stage is always a next state, in which only the transaction differs. -/
theorem advance_eq (st : State) (t : Txn) (o : Fin 19) : st.advance t o = .next (st.setTxn (t.goto (.run o))) := rfl

/-- A gate that passes. -/
theorem gate_pass (st : State) (t : Txn) (c : Cause) (o : Fin 19) :
    st.gate t c true o = .next (st.setTxn ((t.setGate c true).goto (.run o))) := rfl

/-- A gate that fails. -/
theorem gate_fail (st : State) (t : Txn) (c : Cause) (o : Fin 19) :
    st.gate t c false o = .next (st.setTxn (t.reject c)) := rfl

/-- A gate answers a next state in both cases. -/
theorem gate_cases {st : State} {t : Txn} {c : Cause} {pass : Bool} {o : Fin 19} {s' : State}
    (h : st.gate t c pass o = .next s') :
    (pass = true ∧ s' = st.setTxn ((t.setGate c true).goto (.run o))) ∨
      (pass = false ∧ s' = st.setTxn (t.reject c)) := by
  cases pass with
  | true => exact .inl ⟨rfl, (Host.Outcome.next.inj h).symm⟩
  | false => exact .inr ⟨rfl, (Host.Outcome.next.inj h).symm⟩

/-- What a rejection leaves at the outputs and in the stage index, whatever the cause. -/
@[simp] theorem reject_ok (t : Txn) (c : Cause) : (t.reject c).ok = some false := by cases c <;> rfl
@[simp] theorem reject_res (t : Txn) (c : Cause) : (t.reject c).res = some 0 := by cases c <;> rfl
@[simp] theorem reject_stage (t : Txn) (c : Cause) : (t.reject c).stage = .doneReject := by cases c <;> rfl

/-- A gate's flag is no other datapath value: the values between the flags and the outputs stay. -/
@[simp] theorem setGate_w (t : Txn) (c : Cause) (v : Bool) : (t.setGate c v).w = t.w := by cases c <;> rfl
@[simp] theorem setGate_len (t : Txn) (c : Cause) (v : Bool) : (t.setGate c v).len = t.len := by cases c <;> rfl
@[simp] theorem setGate_stage (t : Txn) (c : Cause) (v : Bool) : (t.setGate c v).stage = t.stage := by cases c <;> rfl

/-- A transaction that has just been presented. -/
@[simp] theorem fresh_stage (w : Window) (len : Nat) : (Txn.fresh w len).stage = .run 0 := rfl
@[simp] theorem fresh_w (w : Window) (len : Nat) : (Txn.fresh w len).w = some w := rfl
@[simp] theorem fresh_len (w : Window) (len : Nat) : (Txn.fresh w len).len = some len := rfl

/-- Between transactions nothing of a transaction exists; all else stays (R22, R131). -/
@[simp] theorem State.retire_txn (st : State) : st.retire.txn = Txn.empty := rfl
@[simp] theorem State.retire_win (st : State) : st.retire.win = st.win := rfl
@[simp] theorem State.retire_length (st : State) : st.retire.length = st.length := rfl
@[simp] theorem State.retire_hostBuf (st : State) : st.retire.hostBuf = st.hostBuf := rfl
@[simp] theorem State.retire_hostLen (st : State) : st.retire.hostLen = st.hostLen := rfl
@[simp] theorem State.retire_lenW (st : State) : st.retire.lenW = st.lenW := rfl
@[simp] theorem State.retire_requests (st : State) : st.retire.requests = st.requests := rfl
@[simp] theorem State.retire_byDecoder (st : State) : st.retire.byDecoder = st.byDecoder := rfl
@[simp] theorem State.retire_pipe (st : State) : st.retire.pipe = st.pipe := rfl
@[simp] theorem State.retire_drawn (st : State) : st.retire.drawn = st.drawn := rfl

/-- A transaction with no value and no flag has nothing to drop. -/
theorem State.retire_of_empty {st : State} (h : st.txn = Txn.empty) : st.retire = st := by
  rw [State.retire, State.setTxn, ← h]

/-! What a transaction has produced (R116): the view changes `PID` and `LZMASK` alone. -/

@[simp] theorem Txn.produced_stage (t : Txn) : t.produced.stage = t.stage := rfl
@[simp] theorem Txn.produced_w (t : Txn) : t.produced.w = t.w := rfl
@[simp] theorem Txn.produced_len (t : Txn) : t.produced.len = t.len := rfl
@[simp] theorem Txn.produced_cmp (t : Txn) : t.produced.cmp = t.cmp := rfl
@[simp] theorem Txn.produced_rawbm (t : Txn) : t.produced.rawbm = t.rawbm := rfl
@[simp] theorem Txn.produced_bm (t : Txn) : t.produced.bm = t.bm := rfl
@[simp] theorem Txn.produced_prod (t : Txn) : t.produced.prod = t.prod := rfl
@[simp] theorem Txn.produced_hc (t : Txn) : t.produced.hc = t.hc := rfl
@[simp] theorem Txn.produced_desc (t : Txn) : t.produced.desc = t.desc := rfl
@[simp] theorem Txn.produced_gl (t : Txn) : t.produced.gl = t.gl := rfl
@[simp] theorem Txn.produced_cl (t : Txn) : t.produced.cl = t.cl := rfl
@[simp] theorem Txn.produced_dl (t : Txn) : t.produced.dl = t.dl := rfl
@[simp] theorem Txn.produced_p (t : Txn) : t.produced.p = t.p := rfl
@[simp] theorem Txn.produced_ps (t : Txn) : t.produced.ps = t.ps := rfl
@[simp] theorem Txn.produced_s (t : Txn) : t.produced.s = t.s := rfl
@[simp] theorem Txn.produced_b (t : Txn) : t.produced.b = t.b := rfl
@[simp] theorem Txn.produced_res (t : Txn) : t.produced.res = t.res := rfl
@[simp] theorem Txn.produced_ok (t : Txn) : t.produced.ok = t.ok := rfl
@[simp] theorem Txn.produced_g0 (t : Txn) : t.produced.g0 = t.g0 := rfl
@[simp] theorem Txn.produced_g1 (t : Txn) : t.produced.g1 = t.g1 := rfl
@[simp] theorem Txn.produced_g2 (t : Txn) : t.produced.g2 = t.g2 := rfl
@[simp] theorem Txn.produced_g3 (t : Txn) : t.produced.g3 = t.g3 := rfl
@[simp] theorem Txn.produced_g4 (t : Txn) : t.produced.g4 = t.g4 := rfl
@[simp] theorem Txn.produced_g5 (t : Txn) : t.produced.g5 = t.g5 := rfl

/-- A value that the view shows is the transaction's own. -/
theorem Txn.produced_pid_eq_some {t : Txn} {v : Byte} (h : t.produced.pid = some v) : t.g1 ≠ some false ∧ t.pid = some v := by
  simpa [Txn.produced] using h

theorem Txn.produced_lzmask_eq_some {t : Txn} {v : Lanes Bool} (h : t.produced.lzmask = some v) :
    t.g3 ≠ some false ∧ t.lzmask = some v := by
  simpa [Txn.produced] using h

/-- `PIDLOOK` that rejects has produced no `PID`. -/
@[simp] theorem produced_reject_shapeHash_pid (t : Txn) : (t.reject .shapeHash).produced.pid = none := rfl

/-- `LZCHK` that rejects has produced no `LZMASK`. -/
@[simp] theorem produced_reject_leadingZero_lzmask (t : Txn) : (t.reject .leadingZero).produced.lzmask = none := rfl

/-- A transaction that has been presented anew keeps nothing of the one before it. -/
@[simp] theorem present_retire (st : State) : st.retire.present = st.present := rfl

end Sys2Proof.Machine
end

