-- ==== Sys2Proof/Laws/PerInstr.lean ====
section
/-!
SUPPORT. Per-instruction laws about the syntax. `CodeLaw`: the instruction is well formed, and its code, which `encode` takes
from the table, is the one the spec's construction gives: the valid bitmap of its shape (R44), or a row key of the table (R57).
-/

namespace Sys2Proof.Laws

open Sys2Proof Sys2Proof.Machine

/-- The code of an instruction is the bitmap of its shape, or a row key; and the instruction is well formed. -/
def CodeLaw.Statement (i : Instr) : Prop :=
  i.wellFormed = true ∧
    match encode i with
    | .bitmap bm => ∃ sh, i.shape? = some sh ∧ bm = shapeBitmap sh
    | .stage key => i.shape? = none ∧ stageKeyOk key = true

theorem CodeLaw.lenchk : CodeLaw.Statement .lenchk := ⟨by decide, by decide, by decide⟩
theorem CodeLaw.cmpsep : CodeLaw.Statement .cmpsep := ⟨by decide, by decide, by decide⟩
theorem CodeLaw.bitmask : CodeLaw.Statement .bitmask := ⟨by decide, by decide, by decide⟩
theorem CodeLaw.lenmask : CodeLaw.Statement .lenmask := ⟨by decide, by decide, by decide⟩
theorem CodeLaw.hash : CodeLaw.Statement .hash := ⟨by decide, by decide, by decide⟩
theorem CodeLaw.pidlook : CodeLaw.Statement .pidlook := ⟨by decide, by decide, by decide⟩
theorem CodeLaw.shapeconf : CodeLaw.Statement .shapeconf := ⟨by decide, by decide, by decide⟩
theorem CodeLaw.descsel : CodeLaw.Statement .descsel := ⟨by decide, by decide, by decide⟩
theorem CodeLaw.gather : CodeLaw.Statement .gather := ⟨by decide, by decide, by decide⟩
theorem CodeLaw.lzchk : CodeLaw.Statement .lzchk := ⟨by decide, by decide, by decide⟩
theorem CodeLaw.canon : CodeLaw.Statement .canon := ⟨by decide, by decide, by decide⟩
theorem CodeLaw.subzero : CodeLaw.Statement .subzero := ⟨by decide, by decide, by decide⟩
theorem CodeLaw.digchk : CodeLaw.Statement .digchk := ⟨by decide, by decide, by decide⟩
theorem CodeLaw.wmul : CodeLaw.Statement .wmul := ⟨by decide, by decide, by decide⟩
theorem CodeLaw.pairadd : CodeLaw.Statement .pairadd := ⟨by decide, by decide, by decide⟩
theorem CodeLaw.fold : CodeLaw.Statement .fold := ⟨by decide, by decide, by decide⟩
theorem CodeLaw.ovfchk : CodeLaw.Statement .ovfchk := ⟨by decide, by decide, by decide⟩
theorem CodeLaw.narrow : CodeLaw.Statement .narrow := ⟨by decide, by decide, by decide⟩
theorem CodeLaw.pack : CodeLaw.Statement .pack := ⟨by decide, by decide, by decide⟩
theorem CodeLaw.parse : CodeLaw.Statement .parse := ⟨by decide, by decide, by decide⟩
theorem CodeLaw.load : CodeLaw.Statement .load := ⟨by decide, by decide, by decide⟩
theorem CodeLaw.shape1111 : CodeLaw.Statement .shape1111 := ⟨by decide, _, rfl, by decide⟩
theorem CodeLaw.shape1112 : CodeLaw.Statement .shape1112 := ⟨by decide, _, rfl, by decide⟩
theorem CodeLaw.shape1113 : CodeLaw.Statement .shape1113 := ⟨by decide, _, rfl, by decide⟩
theorem CodeLaw.shape1121 : CodeLaw.Statement .shape1121 := ⟨by decide, _, rfl, by decide⟩
theorem CodeLaw.shape1122 : CodeLaw.Statement .shape1122 := ⟨by decide, _, rfl, by decide⟩
theorem CodeLaw.shape1123 : CodeLaw.Statement .shape1123 := ⟨by decide, _, rfl, by decide⟩
theorem CodeLaw.shape1131 : CodeLaw.Statement .shape1131 := ⟨by decide, _, rfl, by decide⟩
theorem CodeLaw.shape1132 : CodeLaw.Statement .shape1132 := ⟨by decide, _, rfl, by decide⟩
theorem CodeLaw.shape1133 : CodeLaw.Statement .shape1133 := ⟨by decide, _, rfl, by decide⟩
theorem CodeLaw.shape1211 : CodeLaw.Statement .shape1211 := ⟨by decide, _, rfl, by decide⟩
theorem CodeLaw.shape1212 : CodeLaw.Statement .shape1212 := ⟨by decide, _, rfl, by decide⟩
theorem CodeLaw.shape1213 : CodeLaw.Statement .shape1213 := ⟨by decide, _, rfl, by decide⟩
theorem CodeLaw.shape1221 : CodeLaw.Statement .shape1221 := ⟨by decide, _, rfl, by decide⟩
theorem CodeLaw.shape1222 : CodeLaw.Statement .shape1222 := ⟨by decide, _, rfl, by decide⟩
theorem CodeLaw.shape1223 : CodeLaw.Statement .shape1223 := ⟨by decide, _, rfl, by decide⟩
theorem CodeLaw.shape1231 : CodeLaw.Statement .shape1231 := ⟨by decide, _, rfl, by decide⟩
theorem CodeLaw.shape1232 : CodeLaw.Statement .shape1232 := ⟨by decide, _, rfl, by decide⟩
theorem CodeLaw.shape1233 : CodeLaw.Statement .shape1233 := ⟨by decide, _, rfl, by decide⟩
theorem CodeLaw.shape1311 : CodeLaw.Statement .shape1311 := ⟨by decide, _, rfl, by decide⟩
theorem CodeLaw.shape1312 : CodeLaw.Statement .shape1312 := ⟨by decide, _, rfl, by decide⟩
theorem CodeLaw.shape1313 : CodeLaw.Statement .shape1313 := ⟨by decide, _, rfl, by decide⟩
theorem CodeLaw.shape1321 : CodeLaw.Statement .shape1321 := ⟨by decide, _, rfl, by decide⟩
theorem CodeLaw.shape1322 : CodeLaw.Statement .shape1322 := ⟨by decide, _, rfl, by decide⟩
theorem CodeLaw.shape1323 : CodeLaw.Statement .shape1323 := ⟨by decide, _, rfl, by decide⟩
theorem CodeLaw.shape1331 : CodeLaw.Statement .shape1331 := ⟨by decide, _, rfl, by decide⟩
theorem CodeLaw.shape1332 : CodeLaw.Statement .shape1332 := ⟨by decide, _, rfl, by decide⟩
theorem CodeLaw.shape1333 : CodeLaw.Statement .shape1333 := ⟨by decide, _, rfl, by decide⟩
theorem CodeLaw.shape2111 : CodeLaw.Statement .shape2111 := ⟨by decide, _, rfl, by decide⟩
theorem CodeLaw.shape2112 : CodeLaw.Statement .shape2112 := ⟨by decide, _, rfl, by decide⟩
theorem CodeLaw.shape2113 : CodeLaw.Statement .shape2113 := ⟨by decide, _, rfl, by decide⟩
theorem CodeLaw.shape2121 : CodeLaw.Statement .shape2121 := ⟨by decide, _, rfl, by decide⟩
theorem CodeLaw.shape2122 : CodeLaw.Statement .shape2122 := ⟨by decide, _, rfl, by decide⟩
theorem CodeLaw.shape2123 : CodeLaw.Statement .shape2123 := ⟨by decide, _, rfl, by decide⟩
theorem CodeLaw.shape2131 : CodeLaw.Statement .shape2131 := ⟨by decide, _, rfl, by decide⟩
theorem CodeLaw.shape2132 : CodeLaw.Statement .shape2132 := ⟨by decide, _, rfl, by decide⟩
theorem CodeLaw.shape2133 : CodeLaw.Statement .shape2133 := ⟨by decide, _, rfl, by decide⟩
theorem CodeLaw.shape2211 : CodeLaw.Statement .shape2211 := ⟨by decide, _, rfl, by decide⟩
theorem CodeLaw.shape2212 : CodeLaw.Statement .shape2212 := ⟨by decide, _, rfl, by decide⟩
theorem CodeLaw.shape2213 : CodeLaw.Statement .shape2213 := ⟨by decide, _, rfl, by decide⟩
theorem CodeLaw.shape2221 : CodeLaw.Statement .shape2221 := ⟨by decide, _, rfl, by decide⟩
theorem CodeLaw.shape2222 : CodeLaw.Statement .shape2222 := ⟨by decide, _, rfl, by decide⟩
theorem CodeLaw.shape2223 : CodeLaw.Statement .shape2223 := ⟨by decide, _, rfl, by decide⟩
theorem CodeLaw.shape2231 : CodeLaw.Statement .shape2231 := ⟨by decide, _, rfl, by decide⟩
theorem CodeLaw.shape2232 : CodeLaw.Statement .shape2232 := ⟨by decide, _, rfl, by decide⟩
theorem CodeLaw.shape2233 : CodeLaw.Statement .shape2233 := ⟨by decide, _, rfl, by decide⟩
theorem CodeLaw.shape2311 : CodeLaw.Statement .shape2311 := ⟨by decide, _, rfl, by decide⟩
theorem CodeLaw.shape2312 : CodeLaw.Statement .shape2312 := ⟨by decide, _, rfl, by decide⟩
theorem CodeLaw.shape2313 : CodeLaw.Statement .shape2313 := ⟨by decide, _, rfl, by decide⟩
theorem CodeLaw.shape2321 : CodeLaw.Statement .shape2321 := ⟨by decide, _, rfl, by decide⟩
theorem CodeLaw.shape2322 : CodeLaw.Statement .shape2322 := ⟨by decide, _, rfl, by decide⟩
theorem CodeLaw.shape2323 : CodeLaw.Statement .shape2323 := ⟨by decide, _, rfl, by decide⟩
theorem CodeLaw.shape2331 : CodeLaw.Statement .shape2331 := ⟨by decide, _, rfl, by decide⟩
theorem CodeLaw.shape2332 : CodeLaw.Statement .shape2332 := ⟨by decide, _, rfl, by decide⟩
theorem CodeLaw.shape2333 : CodeLaw.Statement .shape2333 := ⟨by decide, _, rfl, by decide⟩
theorem CodeLaw.shape3111 : CodeLaw.Statement .shape3111 := ⟨by decide, _, rfl, by decide⟩
theorem CodeLaw.shape3112 : CodeLaw.Statement .shape3112 := ⟨by decide, _, rfl, by decide⟩
theorem CodeLaw.shape3113 : CodeLaw.Statement .shape3113 := ⟨by decide, _, rfl, by decide⟩
theorem CodeLaw.shape3121 : CodeLaw.Statement .shape3121 := ⟨by decide, _, rfl, by decide⟩
theorem CodeLaw.shape3122 : CodeLaw.Statement .shape3122 := ⟨by decide, _, rfl, by decide⟩
theorem CodeLaw.shape3123 : CodeLaw.Statement .shape3123 := ⟨by decide, _, rfl, by decide⟩
theorem CodeLaw.shape3131 : CodeLaw.Statement .shape3131 := ⟨by decide, _, rfl, by decide⟩
theorem CodeLaw.shape3132 : CodeLaw.Statement .shape3132 := ⟨by decide, _, rfl, by decide⟩
theorem CodeLaw.shape3133 : CodeLaw.Statement .shape3133 := ⟨by decide, _, rfl, by decide⟩
theorem CodeLaw.shape3211 : CodeLaw.Statement .shape3211 := ⟨by decide, _, rfl, by decide⟩
theorem CodeLaw.shape3212 : CodeLaw.Statement .shape3212 := ⟨by decide, _, rfl, by decide⟩
theorem CodeLaw.shape3213 : CodeLaw.Statement .shape3213 := ⟨by decide, _, rfl, by decide⟩
theorem CodeLaw.shape3221 : CodeLaw.Statement .shape3221 := ⟨by decide, _, rfl, by decide⟩
theorem CodeLaw.shape3222 : CodeLaw.Statement .shape3222 := ⟨by decide, _, rfl, by decide⟩
theorem CodeLaw.shape3223 : CodeLaw.Statement .shape3223 := ⟨by decide, _, rfl, by decide⟩
theorem CodeLaw.shape3231 : CodeLaw.Statement .shape3231 := ⟨by decide, _, rfl, by decide⟩
theorem CodeLaw.shape3232 : CodeLaw.Statement .shape3232 := ⟨by decide, _, rfl, by decide⟩
theorem CodeLaw.shape3233 : CodeLaw.Statement .shape3233 := ⟨by decide, _, rfl, by decide⟩
theorem CodeLaw.shape3311 : CodeLaw.Statement .shape3311 := ⟨by decide, _, rfl, by decide⟩
theorem CodeLaw.shape3312 : CodeLaw.Statement .shape3312 := ⟨by decide, _, rfl, by decide⟩
theorem CodeLaw.shape3313 : CodeLaw.Statement .shape3313 := ⟨by decide, _, rfl, by decide⟩
theorem CodeLaw.shape3321 : CodeLaw.Statement .shape3321 := ⟨by decide, _, rfl, by decide⟩
theorem CodeLaw.shape3322 : CodeLaw.Statement .shape3322 := ⟨by decide, _, rfl, by decide⟩
theorem CodeLaw.shape3323 : CodeLaw.Statement .shape3323 := ⟨by decide, _, rfl, by decide⟩
theorem CodeLaw.shape3331 : CodeLaw.Statement .shape3331 := ⟨by decide, _, rfl, by decide⟩
theorem CodeLaw.shape3332 : CodeLaw.Statement .shape3332 := ⟨by decide, _, rfl, by decide⟩
theorem CodeLaw.shape3333 : CodeLaw.Statement .shape3333 := ⟨by decide, _, rfl, by decide⟩

end Sys2Proof.Laws
end

