-- ==== Sys2Proof/Laws/Values.lean ====
section
/-!
SUPPORT. The lanes of each vector value, one lemma a value, and the small lemmas of the lane roles: later proofs cite these and
do not unfold the values again.
-/

namespace Sys2Proof.Machine

open Sys2Proof

@[simp] theorem busLanes_get (bus : BitVec 128) (i : Nat) (h : i < 16) :
    (busLanes bus)[i] = bus.extractLsb' (8 * i) 8 := by simp [busLanes]

@[simp] theorem cmpsepValue_get (w : Window) (i : Nat) (h : i < 16) : (cmpsepValue w)[i] = (w[i] == Config.sep) := by
  simp [cmpsepValue]

@[simp] theorem gatherValue_get (w : Window) (d : Descriptor) (i : Nat) (h : i < 16) :
    (gatherValue w d)[i] = laneByte w d[i] := by simp [gatherValue]

@[simp] theorem laneByte_index (w : Window) (k : Fin 16) : laneByte w (.index k) = w[k] := rfl

@[simp] theorem laneByte_miss (w : Window) : laneByte w .miss = Config.missByte := rfl

@[simp] theorem canonValue_get (gl : Lanes Byte) (d : Descriptor) (i : Nat) (h : i < 16) :
    (canonValue gl d)[i] = if d[i] = .miss then Config.zero else gl[i] := by simp [canonValue]

@[simp] theorem subzeroValue_get (cl : Lanes Byte) (i : Nat) (h : i < 16) :
    (subzeroValue cl)[i] = cl[i] - Config.zero := by simp [subzeroValue]

@[simp] theorem wmulValue_get (dl : Lanes Byte) (i : Nat) (h : i < 16) :
    (wmulValue dl)[i] = BitVec.ofNat 16 (dl[i].toNat * laneWeight ⟨i, h⟩) := by simp [wmulValue]

@[simp] theorem pairaddValue_get (p : Lanes (BitVec 16)) (j : Nat) (h : j < 8) :
    (pairaddValue p)[j] = p[2 * j] + p[2 * j + 1] := by simp [pairaddValue]

@[simp] theorem foldValue_get (ps : Vector (BitVec 16) 8) (g : Nat) (h : g < 4) :
    (foldValue ps)[g] = ps[g] + ps[g + 4] := by simp [foldValue]

@[simp] theorem narrowValue_get (s : Vector (BitVec 16) 4) (g : Nat) (h : g < 4) :
    (narrowValue s)[g] = if s[g].toNat > Config.octetMax then 0xFF else s[g].setWidth 8 := by simp [narrowValue]

/-- The four lanes of a group, by role (R49). -/
theorem laneRole_onesLane (g : Fin 4) : laneRole (onesLane g) = .ones ∧ laneGroup (onesLane g) = g := by
  revert g; decide

theorem laneRole_tensLane (g : Fin 4) : laneRole (tensLane g) = .tens ∧ laneGroup (tensLane g) = g := by
  revert g; decide

theorem laneRole_hundredsLane (g : Fin 4) : laneRole (hundredsLane g) = .hundreds ∧ laneGroup (hundredsLane g) = g := by
  revert g; decide

theorem laneRole_spareLane (g : Fin 4) : laneRole (spareLane g) = .spare ∧ laneGroup (spareLane g) = g := by
  revert g; decide

/-- The weights as the spec lists them (R53). -/
theorem laneWeight_list :
    (List.finRange 16).map laneWeight = [1, 10, 1, 10, 1, 10, 1, 10, 100, 0, 100, 0, 100, 0, 100, 0] := by decide

/-- The number of a list of booleans is below 2 to its length. -/
theorem bitsValue_lt (l : List Bool) : bitsValue l < 2 ^ l.length := by
  induction l with
  | nil => simp [bitsValue]
  | cons x xs ih =>
    rw [bitsValue, List.length_cons, pow_succ]
    split <;> omega

/-- Bit i of the number is the i-th boolean (R26). -/
theorem bitsValue_testBit (l : List Bool) (i : Nat) : (bitsValue l).testBit i = l.getD i false := by
  induction l generalizing i with
  | nil => simp [bitsValue]
  | cons x xs ih =>
    cases i with
    | zero => cases x <;> simp [bitsValue, Nat.testBit_zero]
    | succ i =>
      rw [Nat.testBit_succ, bitsValue]
      have hdiv : ((if x = true then 1 else 0) + 2 * bitsValue xs) / 2 = bitsValue xs := by split <;> omega
      rw [hdiv, ih]; rfl

/-- Bit i of `RAWBM` is lane i of `CMP` (R62). -/
theorem bitmaskValue_getLsbD (cmp : Lanes Bool) (i : Nat) (h : i < 16) : (bitmaskValue cmp).getLsbD i = cmp[i] := by
  rw [bitmaskValue, BitVec.getLsbD_ofNat, bitsValue_testBit]
  simp [h]

end Sys2Proof.Machine
end

