-- ==== Sys2Proof/Tests/Slice0.lean ====
section
/-!
SUPPORT. The model's own tests, in three parts: what the checks of `WellFormed` refuse; words written out from the spec's
encodings, and one or two small steps for each operation, with values from `spec/95_test_vectors.md`; and one witness for every
statement that has hypotheses, its clauses at the boundary values of their ranges.
-/

namespace Sys2Proof.Tests

open Sys2Proof Sys2Proof.Machine

/-! ## Well-formedness: what the checks refuse -/

theorem test_wf_refuses_empty_group : (Shape.mk 0 1 1 1).wellFormed = false := by decide
theorem test_wf_refuses_long_group : (Shape.mk 1 4 1 1).wellFormed = false := by decide
theorem test_wf_refuses_stage_key : stageKeyOk 0x15 = false := by decide
theorem test_wf_refuses_lane_byte : laneByteOk 0x10 = false ∧ laneByteOk 0xFE = false := by decide
theorem test_wf_accepts : groupLengthOk 3 = true ∧ stageKeyOk 0x14 = true ∧ laneByteOk 0x0F = true ∧ laneByteOk 0xFF = true := by
  decide

/-! ## Decoding -/

/-- The 21 row keys, bit by bit (R56, R57: the ordinal, 0x13 for `PARSE`, 0x14 for `LOAD`). -/
theorem test_decode_stage_words :
    List.map (fun k : BitVec 5 => decodeTableWord 8 k.toNat)
      [0b00000, 0b00001, 0b00010, 0b00011, 0b00100, 0b00101, 0b00110, 0b00111, 0b01000, 0b01001, 0b01010,
      0b01011, 0b01100, 0b01101, 0b01110, 0b01111, 0b10000, 0b10001, 0b10010, 0b10011, 0b10100] =
    List.map some
      [.lenchk, .cmpsep, .bitmask, .lenmask, .hash, .pidlook, .shapeconf, .descsel, .gather, .lzchk,
      .canon, .subzero, .digchk, .wmul, .pairadd, .fold, .ovfchk, .narrow, .pack, .parse, .load] := by decide

/-- The bitmaps of PatternIDs 0 to 8, bit by bit: three separator bits and the guard bit each (R44, R51). -/
theorem test_decode_shape_words_0 :
    List.map (fun bm : BitVec 16 => decodeTableWord 16 bm.toNat)
      [0b0000000010101010, 0b0000000100101010, 0b0000001000101010, 0b0000000101001010, 0b0000001001001010,
      0b0000010001001010, 0b0000001010001010, 0b0000010010001010, 0b0000100010001010] =
    List.map some
      [.shape1111, .shape1112, .shape1113, .shape1121, .shape1122, .shape1123, .shape1131, .shape1132, .shape1133] := by decide

/-- The bitmaps of PatternIDs 9 to 17, bit by bit: three separator bits and the guard bit each (R44, R51). -/
theorem test_decode_shape_words_1 :
    List.map (fun bm : BitVec 16 => decodeTableWord 16 bm.toNat)
      [0b0000000101010010, 0b0000001001010010, 0b0000010001010010, 0b0000001010010010, 0b0000010010010010,
      0b0000100010010010, 0b0000010100010010, 0b0000100100010010, 0b0001000100010010] =
    List.map some
      [.shape1211, .shape1212, .shape1213, .shape1221, .shape1222, .shape1223, .shape1231, .shape1232, .shape1233] := by decide

/-- The bitmaps of PatternIDs 18 to 26, bit by bit: three separator bits and the guard bit each (R44, R51). -/
theorem test_decode_shape_words_2 :
    List.map (fun bm : BitVec 16 => decodeTableWord 16 bm.toNat)
      [0b0000001010100010, 0b0000010010100010, 0b0000100010100010, 0b0000010100100010, 0b0000100100100010,
      0b0001000100100010, 0b0000101000100010, 0b0001001000100010, 0b0010001000100010] =
    List.map some
      [.shape1311, .shape1312, .shape1313, .shape1321, .shape1322, .shape1323, .shape1331, .shape1332, .shape1333] := by decide

/-- The bitmaps of PatternIDs 27 to 35, bit by bit: three separator bits and the guard bit each (R44, R51). -/
theorem test_decode_shape_words_3 :
    List.map (fun bm : BitVec 16 => decodeTableWord 16 bm.toNat)
      [0b0000000101010100, 0b0000001001010100, 0b0000010001010100, 0b0000001010010100, 0b0000010010010100,
      0b0000100010010100, 0b0000010100010100, 0b0000100100010100, 0b0001000100010100] =
    List.map some
      [.shape2111, .shape2112, .shape2113, .shape2121, .shape2122, .shape2123, .shape2131, .shape2132, .shape2133] := by decide

/-- The bitmaps of PatternIDs 36 to 44, bit by bit: three separator bits and the guard bit each (R44, R51). -/
theorem test_decode_shape_words_4 :
    List.map (fun bm : BitVec 16 => decodeTableWord 16 bm.toNat)
      [0b0000001010100100, 0b0000010010100100, 0b0000100010100100, 0b0000010100100100, 0b0000100100100100,
      0b0001000100100100, 0b0000101000100100, 0b0001001000100100, 0b0010001000100100] =
    List.map some
      [.shape2211, .shape2212, .shape2213, .shape2221, .shape2222, .shape2223, .shape2231, .shape2232, .shape2233] := by decide

/-- The bitmaps of PatternIDs 45 to 53, bit by bit: three separator bits and the guard bit each (R44, R51). -/
theorem test_decode_shape_words_5 :
    List.map (fun bm : BitVec 16 => decodeTableWord 16 bm.toNat)
      [0b0000010101000100, 0b0000100101000100, 0b0001000101000100, 0b0000101001000100, 0b0001001001000100,
      0b0010001001000100, 0b0001010001000100, 0b0010010001000100, 0b0100010001000100] =
    List.map some
      [.shape2311, .shape2312, .shape2313, .shape2321, .shape2322, .shape2323, .shape2331, .shape2332, .shape2333] := by decide

/-- The bitmaps of PatternIDs 54 to 62, bit by bit: three separator bits and the guard bit each (R44, R51). -/
theorem test_decode_shape_words_6 :
    List.map (fun bm : BitVec 16 => decodeTableWord 16 bm.toNat)
      [0b0000001010101000, 0b0000010010101000, 0b0000100010101000, 0b0000010100101000, 0b0000100100101000,
      0b0001000100101000, 0b0000101000101000, 0b0001001000101000, 0b0010001000101000] =
    List.map some
      [.shape3111, .shape3112, .shape3113, .shape3121, .shape3122, .shape3123, .shape3131, .shape3132, .shape3133] := by decide

/-- The bitmaps of PatternIDs 63 to 71, bit by bit: three separator bits and the guard bit each (R44, R51). -/
theorem test_decode_shape_words_7 :
    List.map (fun bm : BitVec 16 => decodeTableWord 16 bm.toNat)
      [0b0000010101001000, 0b0000100101001000, 0b0001000101001000, 0b0000101001001000, 0b0001001001001000,
      0b0010001001001000, 0b0001010001001000, 0b0010010001001000, 0b0100010001001000] =
    List.map some
      [.shape3211, .shape3212, .shape3213, .shape3221, .shape3222, .shape3223, .shape3231, .shape3232, .shape3233] := by decide

/-- The bitmaps of PatternIDs 72 to 80, bit by bit: three separator bits and the guard bit each (R44, R51). -/
theorem test_decode_shape_words_8 :
    List.map (fun bm : BitVec 16 => decodeTableWord 16 bm.toNat)
      [0b0000101010001000, 0b0001001010001000, 0b0010001010001000, 0b0001010010001000, 0b0010010010001000,
      0b0100010010001000, 0b0010100010001000, 0b0100100010001000, 0b1000100010001000] =
    List.map some
      [.shape3311, .shape3312, .shape3313, .shape3321, .shape3322, .shape3323, .shape3331, .shape3332, .shape3333] := by decide

/-- What is no row: a key above 0x14, the empty text's bitmap 0x0001, the alias 0x0322 of 0x00AA (R55), a legal bitmap with one
bit more, no bytes, and three bytes. -/
theorem test_decode_refuses :
    decode (.stage 0x15) = .error (.noStageRow 0x15) ∧ decode (.bitmap 0x0001) = .error (.illegalBitmap 0x0001) ∧
      decode (.bitmap 0x0322) = .error (.illegalBitmap 0x0322) ∧
      decode (.bitmap 0x80AA) = .error (.illegalBitmap 0x80AA) ∧ decodeBytes [] = .error .noCode ∧
      decodeBytes [0x00, 0x00, 0x00] = .error .noCode := ⟨rfl, rfl, rfl, rfl, rfl, rfl⟩

/-! ## Helpers -/

/-- A state with a given transaction, all else as after reset. -/
def withTxn (t : Txn) : State := { State.reset with txn := t }

/-- A value of the transaction in the state an outcome gives, if it gives a next state in which the value exists. -/
def got {α : Type} (f : Txn → Option α) (o : Out) : Option α :=
  match o with
  | .next s => f s.txn
  | .fault _ => none
  | .refused _ => none

/-- The stage index in the state an outcome gives. -/
def stageOf (o : Out) : Option Stage := got (fun t => some t.stage) o

/-- Whether an outcome is a next state. -/
def isNext (o : Out) : Bool := (stageOf o).isSome

theorem exists_next {o : Out} (h : isNext o = true) : ∃ s, o = .next s := by
  cases o with
  | next s => exact ⟨s, rfl⟩
  | fault _ => cases h
  | refused _ => cases h

/-- "1.2.3.4", zero-padded (`spec/95_test_vectors.md` 2.1). -/
def w1234 : Window := #v[0x31, 0x2E, 0x32, 0x2E, 0x33, 0x2E, 0x34, 0, 0, 0, 0, 0, 0, 0, 0, 0]

/-- "192.168.0.1", zero-padded (`spec/95_test_vectors.md` program 1). -/
def w192 : Window := #v[0x31, 0x39, 0x32, 0x2E, 0x31, 0x36, 0x38, 0x2E, 0x30, 0x2E, 0x31, 0, 0, 0, 0, 0]

/-- A machine whose ports hold the bytes of "1.2.3.4" and the length `n`. -/
def ports1234 (n : Nat) : State := { State.reset with win := Memory.ofBytes w1234.toList, length := n }

/-- `DESCROM` row 72 (`spec/95_test_vectors.md` 2.2). -/
def desc72 : Descriptor :=
  #v[.index 2, .index 1, .index 6, .index 5, .index 8, .miss, .index 10, .miss, .index 0, .miss, .index 4, .miss, .miss, .miss,
    .miss, .miss]

/-- `DESCROM` row 27, of shape 2 1 1 1 (`spec/30_encoding.md` R51). -/
def desc27 : Descriptor :=
  #v[.index 1, .index 0, .index 3, .miss, .index 5, .miss, .index 7, .miss, .miss, .miss, .miss, .miss, .miss, .miss, .miss, .miss]

/-- `GL` of "192.168.0.1" (`spec/95_test_vectors.md` 2.3). -/
def gl192 : Lanes Byte := #v[0x32, 0x39, 0x38, 0x36, 0x30, 0, 0x31, 0, 0x31, 0, 0x31, 0, 0, 0, 0, 0]

/-- `CL` of "192.168.0.1" (`spec/95_test_vectors.md` program 1). -/
def cl192 : Lanes Byte :=
  #v[0x32, 0x39, 0x38, 0x36, 0x30, 0x30, 0x31, 0x30, 0x31, 0x30, 0x31, 0x30, 0x30, 0x30, 0x30, 0x30]

/-- `DL` of "192.168.0.1" (`spec/95_test_vectors.md` 2.5). -/
def dl192 : Lanes Byte := #v[2, 9, 8, 6, 0, 0, 1, 0, 1, 0, 1, 0, 0, 0, 0, 0]

/-- `P` of "192.168.0.1" (`spec/95_test_vectors.md` 2.5). -/
def p192 : Lanes (BitVec 16) := #v[2, 90, 8, 60, 0, 0, 1, 0, 100, 0, 100, 0, 0, 0, 0, 0]

/-- `PS` of "192.168.0.1" (`spec/95_test_vectors.md` 2.5). -/
def ps192 : Vector (BitVec 16) 8 := #v[92, 68, 0, 1, 100, 100, 0, 0]

/-! ## One step of each operation -/

/-- 2.1: `LEN` = 15 passes; `LEN` = 16 is rejected. -/
theorem test_lenchk : stageOf (execLenchk (withTxn { Txn.empty with len := some 15 })) = some (.run 1) ∧
    stageOf (execLenchk (withTxn { Txn.empty with len := some 16 })) = some .doneReject := by decide

/-- 2.1: 0xAE, 0x2C and 0x2F are not separators; 0x2E is. -/
theorem test_cmpsep :
    got Txn.cmp (execCmpsep (withTxn { Txn.empty with w := some #v[0xAE, 0x2C, 0x2F, 0x2E, 0, 0, 0, 0, 0, 0, 0, 0, 0, 0, 0, 0] }))
      = some #v[false, false, false, true, false, false, false, false, false, false, false, false, false, false, false, false] := by
  decide

/-- 2.1: the lanes 0001000000000000, lane 0 first, are 0x0008. -/
theorem test_bitmask :
    got Txn.rawbm (execBitmask (withTxn { Txn.empty with
      cmp := some #v[false, false, false, true, false, false, false, false, false, false, false, false, false, false, false, false] }))
      = some 0x0008 := by decide

/-- 2.1: "." with a window of separators, `LEN` = 1; and fifteen separators, the guard at bit 15. -/
theorem test_lenmask :
    got Txn.bm (execLenmask (withTxn { Txn.empty with rawbm := some 0xFFFF, len := some 1 })) = some 0x0003 ∧
      got Txn.bm (execLenmask (withTxn { Txn.empty with rawbm := some 0xFFFF, len := some 15 })) = some 0xFFFF := by decide

/-- 2.2: `PROD` and `HC` of 0x0A88 and of 0xFFFF. -/
theorem test_hash :
    got Txn.prod (execHash (withTxn { Txn.empty with bm := some 0x0A88 })) = some 0x01111CF8 ∧
      got Txn.hc (execHash (withTxn { Txn.empty with bm := some 0x0A88 })) = some 0x88 ∧
      got Txn.hc (execHash (withTxn { Txn.empty with bm := some 0xFFFF })) = some 0x77 := by decide

/-- 2.2: hash code 0xA5 holds PatternID 80; 0x45 the sentinel. -/
theorem test_pidlook :
    got Txn.pid (execPidlook (withTxn { Txn.empty with hc := some 0xA5 })) = some 80 ∧
      got Txn.g1 (execPidlook (withTxn { Txn.empty with hc := some 0x45 })) = some false := by decide

/-- 2.2: 0x0322 aliases PatternID 0 and is rejected; 0x00AA passes. -/
theorem test_shapeconf :
    got Txn.g2 (execShapeconf (withTxn { Txn.empty with bm := some 0x0322, pid := some 0 })) = some false ∧
      got Txn.g2 (execShapeconf (withTxn { Txn.empty with bm := some 0x00AA, pid := some 0 })) = some true := by decide

/-- 2.2: descriptor 72. -/
theorem test_descsel : got Txn.desc (execDescsel (withTxn { Txn.empty with pid := some 72 })) = some desc72 := by decide

/-- 2.3: the lanes of "192.168.0.1". -/
theorem test_gather :
    got Txn.gl (execGather (withTxn { Txn.empty with w := some w192, desc := some desc72 })) = some gl192 := by decide

/-- 2.3: a pure rearrangement: the miss lanes are 0x00 whatever the window holds. -/
theorem test_gather_miss :
    got Txn.gl (execGather (withTxn { Txn.empty with
      w := some (Vector.replicate 16 0xEE), desc := some (shapeDescriptor (Shape.mk 1 1 1 1)) })) =
      some #v[0xEE, 0, 0xEE, 0, 0xEE, 0, 0xEE, 0, 0, 0, 0, 0, 0, 0, 0, 0] := by decide

/-- Program 1: the lanes 8 and 10 are checked, and pass. -/
theorem test_lzchk_pass :
    got Txn.lzmask (execLzchk (withTxn { Txn.empty with gl := some gl192, desc := some desc72 })) =
      some #v[false, false, false, false, false, false, false, false, true, false, true, false, false, false, false, false] ∧
    got Txn.g3 (execLzchk (withTxn { Txn.empty with gl := some gl192, desc := some desc72 })) = some true := by decide

/-- 2.4: "01.1.1.1" has "0" in lane 1, the tens lane of group 0. -/
theorem test_lzchk_reject :
    got Txn.g3 (execLzchk (withTxn { Txn.empty with
      gl := some #v[0x31, 0x30, 0x31, 0, 0x31, 0, 0x31, 0, 0, 0, 0, 0, 0, 0, 0, 0], desc := some desc27 })) = some false := by decide

/-- Program 1: the miss lanes become "0". -/
theorem test_canon : got Txn.cl (execCanon (withTxn { Txn.empty with gl := some gl192, desc := some desc72 })) = some cl192 := by
  decide

/-- 2.4: 30 → 00, 39 → 09, 3A → 0A, 2F → FF, 2E → FE, 20 → F0, 00 → D0, 61 → 31, 80 → 50, FF → CF. -/
theorem test_subzero :
    got Txn.dl (execSubzero (withTxn { Txn.empty with
      cl := some #v[0x30, 0x39, 0x3A, 0x2F, 0x2E, 0x20, 0x00, 0x61, 0x80, 0xFF, 0x31, 0x41, 0x7F, 0xB4, 0x30, 0x30] })) =
      some #v[0x00, 0x09, 0x0A, 0xFF, 0xFE, 0xF0, 0xD0, 0x31, 0x50, 0xCF, 0x01, 0x11, 0x4F, 0x84, 0x00, 0x00] := by decide

/-- 2.4: `DIGCHK` passes the values 00 to 09, and 0x0A in any lane, a spare one too, is rejected. -/
theorem test_digchk :
    got Txn.g4 (execDigchk (withTxn { Txn.empty with dl := some (Vector.replicate 16 9) })) = some true ∧
      got Txn.g4 (execDigchk (withTxn { Txn.empty with dl := some ((Vector.replicate 16 0).set 15 0x0A) })) = some false := by decide

/-- 2.5: "192.168.0.1". -/
theorem test_wmul : got Txn.p (execWmul (withTxn { Txn.empty with dl := some dl192 })) = some p192 := by decide

/-- 2.5: "192.168.0.1". -/
theorem test_pairadd : got Txn.ps (execPairadd (withTxn { Txn.empty with p := some p192 })) = some ps192 := by decide

/-- 2.5: "192.168.0.1". -/
theorem test_fold : got Txn.s (execFold (withTxn { Txn.empty with ps := some ps192 })) = some #v[192, 168, 0, 1] := by decide

/-- 2.5: 255 in every group passes; "255.255.255.256" is rejected. -/
theorem test_ovfchk :
    got Txn.g5 (execOvfchk (withTxn { Txn.empty with s := some #v[255, 255, 255, 255] })) = some true ∧
      got Txn.g5 (execOvfchk (withTxn { Txn.empty with s := some #v[255, 255, 255, 256] })) = some false := by decide

/-- 2.6: outside the chain 256 → FF, 999 → FF, 255 → FF, 254 → FE. -/
theorem test_narrow :
    got Txn.b (execNarrow (withTxn { Txn.empty with s := some #v[256, 999, 255, 254] })) = some #v[0xFF, 0xFF, 0xFF, 0xFE] := by
  decide

/-- 2.6: 192 168 0 1 is 0x0100A8C0. -/
theorem test_pack :
    got Txn.res (execPack (withTxn { Txn.empty with b := some #v[0xC0, 0xA8, 0x00, 0x01] })) = some 0x0100A8C0 ∧
      stageOf (execPack (withTxn { Txn.empty with b := some #v[0xC0, 0xA8, 0x00, 0x01] })) = some .doneOk := by decide

/-- Part 1: "1.2.3.4" is 0x04030201; its first six bytes alone, "1.2.3.", are rejected by G2. -/
theorem test_parse :
    got Txn.res (execParse (ports1234 7)) = some 0x04030201 ∧ got Txn.g2 (execParse (ports1234 6)) = some false ∧
      got Txn.res (execParse (ports1234 6)) = some 0 := by decide

/-- R32: of 16 bytes, 15 go to the window, and `LEN` is 16; with a 5-bit port `LEN` is at most 31. -/
theorem test_load :
    (match execLoad { State.reset with hostBuf := Memory.ofBytes (List.replicate 16 0x31), hostLen := 16 } with
      | .next s => decide (Memory.read s.win 14 = 0x31 ∧ Memory.read s.win 15 = 0x00 ∧ s.length = 16)
      | .fault _ => false
      | .refused _ => false) = true ∧
    (match execLoad { State.reset with hostBuf := Memory.ofBytes (List.replicate 16 0x31), hostLen := 200 } with
      | .next s => decide (s.length = 31)
      | .fault _ => false
      | .refused _ => false) = true := by decide

/-- 2.2: the `SHAPE` rows 0, 40, 72 and 80 select their hash codes, PatternIDs and descriptors. -/
theorem test_shape_rows :
    got Txn.hc (execShape1111 State.reset) = some 0x89 ∧ got Txn.pid (execShape2222 State.reset) = some 40 ∧
      got Txn.desc (execShape3311 State.reset) = some desc72 ∧ got Txn.pid (execShape3333 State.reset) = some 80 := by decide

/-- The words of the table, placed where a step fetches: `PACK` and the row `SHAPE_3333` run. -/
theorem test_fetch_word :
    got Txn.res (step (State.reset.withFetchWord 8 0x12)) = some 0x01010101 ∧
      got Txn.pid (step (State.reset.withFetchWord 16 0x8888)) = some 80 := by decide

/-! ## Witnesses: the hypotheses of the statements are met -/

/-- The transaction on "1.2.3.4" that has run `n` operations. -/
def run1234 (n : Nat) : State := withTxn (refTxn w1234 7 n)

/-- A length of 16 is rejected after one operation. -/
theorem refStop_sixteen (w : Window) : refStop w 16 = 1 := rfl

theorem refStop_1234 : refStop w1234 7 = 19 := by decide

theorem inv_run1234 (n : Nat) (h : n ≤ 19) : (run1234 n).Inv :=
  ⟨rfl, rfl, le_refl 5, .inr ⟨w1234, 7, n, by rw [refStop_1234]; exact h, rfl⟩⟩

theorem inv_rejected : (withTxn (refTxn w1234 16 1)).Inv :=
  ⟨rfl, rfl, le_refl 5, .inr ⟨w1234, 16, 1, by rw [refStop_sixteen], rfl⟩⟩

theorem ready_reset : State.reset.Ready := nofun

theorem witness_DecodeOfEncode : Instr.lenchk.wellFormed = true ∧ Instr.shape3333.wellFormed = true := by decide

theorem witness_EncodeOfDecode :
    decode (.stage 0x00) = .ok .lenchk ∧ decode (.stage 0x14) = .ok .load ∧ decode (.bitmap 0x8888) = .ok .shape3333 :=
  ⟨rfl, rfl, rfl⟩

theorem witness_StepRunsDecoded :
    fetch (run1234 18) = .code (.stage 0x12) (run1234 18) ∧ decode (.stage 0x12) = .ok .pack := by
  exact ⟨by decide, rfl⟩

theorem witness_StageSelectsOperation :
    ((run1234 0).txn.stage = .run 0 ∧ ((0 : Fin 19) = 4 → (run1234 0).byDecoder = false) ∧
      encode .lenchk = .stage (BitVec.ofNat 5 0)) ∧
    ((run1234 4).txn.stage = .run 4 ∧ ((4 : Fin 19) = 4 → (run1234 4).byDecoder = false) ∧
      encode .hash = .stage (BitVec.ofNat 5 4)) ∧
    ((run1234 18).txn.stage = .run 18 ∧ ((18 : Fin 19) = 4 → (run1234 18).byDecoder = false) ∧
      encode .pack = .stage (BitVec.ofNat 5 18)) := by decide

/-- A row's bitmap, and 0x0322, which is an alias of 0x00AA. -/
theorem witness_BitmapSelectsShape :
    (let s := withTxn { Txn.empty with stage := .run 4, bm := some 0x8888 }
     let s := s.setByDecoder true
     s.txn.stage = .run 4 ∧ s.byDecoder = true ∧ s.txn.bm = some 0x8888 ∧ encode .shape3333 = .bitmap 0x8888) ∧
    (let s := withTxn { Txn.empty with stage := .run 4, bm := some 0x0322 }
     let s := s.setByDecoder true
     s.txn.stage = .run 4 ∧ s.byDecoder = true ∧ s.txn.bm = some 0x0322 ∧ ∀ i : Instr, encode i ≠ .bitmap 0x0322) := by
  refine ⟨by decide, rfl, rfl, rfl, fun i => ?_⟩
  cases i <;> decide

theorem ready_ended : (run1234 19).Ready := by
  intro ord h
  have hs : (run1234 19).txn.stage = .doneOk := by decide
  rw [hs] at h
  cases h

/-- No act at all, after reset and after a transaction that has ended; and every act of the host, with nothing to come after
it. -/
theorem witness_HostActsInTurn :
    (State.reset.Ready ∧ State.reset.requests = []) ∧ ((run1234 19).Ready ∧ (run1234 19).requests = []) ∧
      ∀ r ∈ [Request.load, .parse, .present, .buffer [0x31], .drive 0 7, .cycle true false],
        ((run1234 19).setRequests [r]).Ready ∧ ((run1234 19).setRequests [r]).requests = r :: [] :=
  ⟨⟨ready_reset, rfl⟩, ⟨ready_ended, rfl⟩, fun _ _ => ⟨ready_ended, rfl⟩⟩

/-- R131: the step after the end of a transaction leaves no stage index and no outcome. -/
theorem test_between_transactions :
    step (run1234 19) = .next State.reset ∧ step (withTxn (refTxn w1234 16 1)) = .next State.reset := ⟨rfl, rfl⟩

/-- A legal shape has group lengths 1 to 3. -/
theorem shape_cases {sh : Shape} (h : sh.wellFormed = true) :
    ∃ a b c d : Fin 3, sh = Shape.mk (a.val + 1) (b.val + 1) (c.val + 1) (d.val + 1) := by
  obtain ⟨a, b, c, d⟩ := sh
  simp only [Shape.wellFormed, groupLengthOk, Bool.and_eq_true, decide_eq_true_eq] at h
  exact ⟨⟨a - 1, by omega⟩, ⟨b - 1, by omega⟩, ⟨c - 1, by omega⟩, ⟨d - 1, by omega⟩, by simp; omega⟩

/-- The least and the greatest shape; and 0x45, the hash code of no shape (2.2). -/
theorem witness_PidromContents :
    (Shape.mk 1 1 1 1).wellFormed = true ∧ (Shape.mk 3 3 3 3).wellFormed = true ∧
      ∀ sh : Shape, sh.wellFormed = true → refHash (shapeBitmap sh) ≠ 0x45 := by
  refine ⟨by decide, by decide, fun sh h => ?_⟩
  obtain ⟨a, b, c, d, rfl⟩ := shape_cases h
  revert a b c d
  decide

theorem witness_DescriptorCoversText :
    (Shape.mk 1 1 1 1).wellFormed = true ∧ (shapeDescriptor (Shape.mk 1 1 1 1))[(0 : Fin 16)] = .index 0 ∧
      (Shape.mk 3 3 3 3).wellFormed = true ∧ (shapeDescriptor (Shape.mk 3 3 3 3))[(6 : Fin 16)] = .index 14 := by decide

/-- Lengths 15 and 16. -/
theorem witness_LenchkGate :
    ((withTxn { Txn.empty with len := some 15 }).txn.len = some 15 ∧ 15 ≤ 15) ∧
      ((withTxn { Txn.empty with len := some 16 }).txn.len = some 16 ∧ 15 < 16) := by decide

theorem witness_CmpsepCompares : (withTxn { Txn.empty with w := some w1234 }).txn.w = some w1234 := rfl

theorem witness_BitmaskSums :
    (withTxn { Txn.empty with cmp := some (Vector.replicate 16 true) }).txn.cmp = some (Vector.replicate 16 true) := rfl

/-- Length 0 and length 15. -/
theorem witness_LenmaskMasks : ∀ n ∈ [0, 15],
    let s := withTxn { Txn.empty with rawbm := some 0xFFFF, len := some n }
    s.txn.rawbm = some 0xFFFF ∧ s.txn.len = some n ∧ n ≤ 15 := by decide

theorem witness_HashMultiplies : (withTxn { Txn.empty with bm := some 0xFFFF }).txn.bm = some 0xFFFF := rfl

/-- PatternID 80, the greatest, at hash code 0xA5; the sentinel at 0x45. -/
theorem witness_PidlookGate :
    ((withTxn { Txn.empty with hc := some 0xA5 }).txn.hc = some 0xA5 ∧ (pidrom 0xA5).toNat = 80) ∧
      ((withTxn { Txn.empty with hc := some 0x45 }).txn.hc = some 0x45 ∧ 81 ≤ (pidrom 0x45).toNat) := by decide

/-- PatternIDs 0 and 80, with the expected bitmap and with another one. -/
theorem witness_ShapeconfGate :
    (let s := withTxn { Txn.empty with bm := some 0x8888, pid := some 80 }
     s.txn.bm = some 0x8888 ∧ s.txn.pid = some 80 ∧ (80 : Byte).toNat < 81 ∧
       (0x8888 : BitVec 16) = shapeBitmap (pidShape (80 : Byte).toNat)) ∧
    (let s := withTxn { Txn.empty with bm := some 0x0322, pid := some 0 }
     s.txn.bm = some 0x0322 ∧ s.txn.pid = some 0 ∧ (0 : Byte).toNat < 81 ∧
       (0x0322 : BitVec 16) ≠ shapeBitmap (pidShape (0 : Byte).toNat)) := by decide

/-- PatternIDs 0 and 80. -/
theorem witness_DescselReads :
    ((withTxn { Txn.empty with pid := some 0 }).txn.pid = some 0 ∧ (0 : Byte).toNat < 81) ∧
      ((withTxn { Txn.empty with pid := some 80 }).txn.pid = some 80 ∧ (80 : Byte).toNat < 81) := by decide

/-- Length 16 and PatternID 81. -/
theorem witness_BeyondDomainGoesOn :
    let s := withTxn { Txn.empty with rawbm := some 0, len := some 16, bm := some 0x00AA, pid := some 81 }
    s.txn.rawbm = some 0 ∧ s.txn.len = some 16 ∧ 15 < 16 ∧ s.txn.bm = some 0x00AA ∧ s.txn.pid = some 81 ∧
      81 ≤ (81 : Byte).toNat := by decide

theorem witness_GatherLanes :
    let s := withTxn { Txn.empty with w := some w192, desc := some desc72 }
    s.txn.w = some w192 ∧ s.txn.desc = some desc72 ∧ desc72[(0 : Fin 16)] = .index 2 ∧ desc72[(15 : Fin 16)] = .miss := by decide

/-- "192.168.0.1" passes, and "01.1.1.1" does not. -/
theorem witness_LzchkGate :
    (let s := withTxn { Txn.empty with gl := some gl192, desc := some desc72 }
     s.txn.gl = some gl192 ∧ s.txn.desc = some desc72 ∧
       ∀ g i, checkedLane desc72 g = some i → gl192[i] ≠ 0x30) ∧
    (let gl : Lanes Byte := #v[0x31, 0x30, 0x31, 0, 0x31, 0, 0x31, 0, 0, 0, 0, 0, 0, 0, 0, 0]
     let s := withTxn { Txn.empty with gl := some gl, desc := some desc27 }
     s.txn.gl = some gl ∧ s.txn.desc = some desc27 ∧ ∃ g i, checkedLane desc27 g = some i ∧ gl[i] = 0x30) := by decide

theorem witness_CanonLanes :
    let s := withTxn { Txn.empty with gl := some gl192, desc := some desc72 }
    s.txn.gl = some gl192 ∧ s.txn.desc = some desc72 := by decide

theorem witness_SubzeroLanes : (withTxn { Txn.empty with cl := some cl192 }).txn.cl = some cl192 := rfl

/-- 9 in every lane, and 10 in the last. -/
theorem witness_DigchkGate :
    (let dl : Lanes Byte := Vector.replicate 16 9
     (withTxn { Txn.empty with dl := some dl }).txn.dl = some dl ∧ ∀ i : Fin 16, dl[i].toNat ≤ 9) ∧
    (let dl : Lanes Byte := (Vector.replicate 16 0).set 15 10
     (withTxn { Txn.empty with dl := some dl }).txn.dl = some dl ∧ ∃ i : Fin 16, 9 < dl[i].toNat) := by decide

theorem witness_WmulLanes : (withTxn { Txn.empty with dl := some dl192 }).txn.dl = some dl192 := rfl

theorem witness_PairaddLanes : (withTxn { Txn.empty with p := some p192 }).txn.p = some p192 := rfl

theorem witness_FoldLanes : (withTxn { Txn.empty with ps := some ps192 }).txn.ps = some ps192 := rfl

theorem witness_AccumulatorSums : (withTxn { Txn.empty with dl := some dl192 }).txn.dl = some dl192 := rfl

/-- Sums of 255, and one of 256. -/
theorem witness_OvfchkGate :
    (let v : Vector (BitVec 16) 4 := #v[255, 255, 255, 255]
     (withTxn { Txn.empty with s := some v }).txn.s = some v ∧ ∀ g : Fin 4, v[g].toNat ≤ 255) ∧
    (let v : Vector (BitVec 16) 4 := #v[255, 255, 255, 256]
     (withTxn { Txn.empty with s := some v }).txn.s = some v ∧ ∃ g : Fin 4, 255 < v[g].toNat) := by decide

theorem witness_NarrowSaturates :
    (withTxn { Txn.empty with s := some #v[0, 255, 256, 65535] }).txn.s = some #v[0, 255, 256, 65535] := rfl

theorem witness_PackConcatenates :
    (withTxn { Txn.empty with b := some #v[0xC0, 0xA8, 0, 1] }).txn.b = some #v[0xC0, 0xA8, 0, 1] := rfl

/-- In the state after reset no datapath value exists; and each first operand without the second. -/
theorem witness_UnwrittenOperandStops :
    (let t := State.reset.txn
     t.len = none ∧ t.w = none ∧ t.cmp = none ∧ t.rawbm = none ∧ t.bm = none ∧ t.hc = none ∧ t.pid = none ∧ t.gl = none ∧
       t.cl = none ∧ t.dl = none ∧ t.p = none ∧ t.ps = none ∧ t.s = none ∧ t.b = none) ∧
    (let t := (withTxn { Txn.empty with rawbm := some 0, bm := some 1, w := some w1234, gl := some gl192 }).txn
     t.rawbm = some 0 ∧ t.len = none ∧ t.bm = some 1 ∧ t.pid = none ∧ t.w = some w1234 ∧ t.gl = some gl192 ∧ t.desc = none) := by
  decide

/-- `LENCHK` on a length of 16; and `PIDLOOK` on the hash code 0x45, which leaves `PID` = 0xFF as read and produces none. -/
theorem witness_OnlyGatesReject :
    ((withTxn (Txn.fresh w1234 16)).txn.stage ≠ .doneReject ∧
      ∃ t, exec .lenchk (withTxn (Txn.fresh w1234 16)) = .next t ∧ t.txn.stage = .doneReject) ∧
    (let s := withTxn { Txn.empty with stage := .run 5, hc := some 0x45 }
     s.txn.stage ≠ .doneReject ∧ Instr.pidlook ≠ .parse ∧
       ∃ t, exec .pidlook s = .next t ∧ t.txn.stage = .doneReject ∧ t.txn.pid = some 0xFF ∧ t.txn.produced.pid = none) :=
  ⟨⟨by decide, _, rfl, rfl⟩, by decide, by decide, _, rfl, rfl, by decide, rfl⟩

theorem witness_CoreWritesNoSpace : Instr.cmpsep ≠ .load ∧ ∃ t, exec .cmpsep (run1234 1) = .next t :=
  ⟨by decide, _, rfl⟩

theorem witness_BuildNeverChanges : ∃ t, step (State.resetWith 8 3) = .next t := ⟨_, rfl⟩

/-- A full window to be overwritten, and 0, 15 and 16 bytes to load. -/
theorem witness_LoadFillsWindow : ∀ n ∈ [0, 15, 16],
    Memory.wf 16 { State.reset with
      win := Memory.ofBytes (List.replicate 16 0xAA), hostBuf := Memory.ofBytes (List.replicate 16 0x31), hostLen := n }.win =
      true := by decide

/-- Two buffers that differ at the fourth byte, of which three are the caller's. -/
theorem witness_LoadNeverOverReads :
    let s := { State.reset with hostBuf := Memory.ofBytes [0x31, 0x32, 0x33], hostLen := 3 }
    ∀ i, i < s.hostLen → i < 15 →
      Memory.read (Memory.ofBytes [0x31, 0x32, 0x33, 0x34]) i = Memory.read s.hostBuf i := by decide

theorem witness_LongInputRejected :
    5 ≤ { State.reset with hostLen := 16 }.lenW ∧ 15 < { State.reset with hostLen := 16 }.hostLen := by decide

theorem witness_ShapeRowSelects :
    Instr.shape1111.shape? = some (Shape.mk 1 1 1 1) ∧ Instr.shape3333.shape? = some (Shape.mk 3 3 3 3) := by decide

/-- A legal bitmap, an alias and a bitmap whose hash code has the sentinel. -/
theorem witness_RowsAgreeWithHash : ∀ bm ∈ [(0x00AA : BitVec 16), 0x0322, 0x0056],
    (withTxn { Txn.empty with bm := some bm }).txn.bm = some bm := fun _ _ => rfl

/-- An accepted input, and one that G0 rejects. -/
theorem witness_TransactionTerminates :
    (let s := withTxn (Txn.fresh w1234 7); s.txn = Txn.fresh w1234 7 ∧ s.byDecoder = false) ∧
      (let s := withTxn (Txn.fresh w1234 16); s.txn = Txn.fresh w1234 16 ∧ s.byDecoder = false) := by decide

theorem witness_ConfirmedShapeGathersText :
    refGate w1234 7 .len = true ∧ refGate w1234 7 .shapeHash = true ∧ refGate w1234 7 .shapeConfirm = true ∧
      (refDesc w1234 7)[(6 : Fin 16)] = .index 6 := by decide

/-- Both sides hold of "1.2.3.4". -/
theorem witness_ParseAcceptsLiterals :
    (∃ t, exec .parse (ports1234 7) = .next t ∧ t.txn.ok = some true ∧ t.txn.res = some 0x04030201) ∧
      (ports1234 7).length ≤ 15 ∧
        ∃ a b c d, IsLiteral ((Memory.lanes (ports1234 7).win).toList.take (ports1234 7).length) a b c d ∧
          (0x04030201 : BitVec 32) = resultWord a b c d :=
  ⟨⟨_, rfl, by decide, by decide⟩, by decide, 1, 2, 3, 4, ⟨[0x31], [0x32], [0x33], [0x34], by decide, by decide⟩, by decide⟩

/-- Two windows that differ at byte 7, with length 7; and at byte 0, with length 16. -/
theorem witness_TailIndependence :
    (let s := ports1234 7
     let s' := (ports1234 7).setWin (Memory.write (ports1234 7).win 7 0x2E)
     s.length = s'.length ∧
       ∀ i, i < s.length → i < 16 → s.length ≤ 15 → Memory.read s.win i = Memory.read s'.win i) ∧
    (let s := ports1234 16
     let s' := (ports1234 16).setWin []
     s.length = s'.length ∧ 16 ≤ s.length ∧
       ∀ i, i < s.length → i < 16 → s.length ≤ 15 → Memory.read s.win i = Memory.read s'.win i) := by decide

/-- A state that is ready for the public operation on any bytes: the empty text, and sixteen bytes. -/
theorem witness_PublicOperation : ∀ bytes ∈ [[], List.replicate 16 (0x31 : Byte)],
    let s := State.reset.setRequests [.buffer bytes, .load, .parse]
    s.Ready ∧ Memory.wf 16 s.win = true ∧ 5 ≤ s.lenW ∧ s.requests = [.buffer bytes, .load, .parse] :=
  fun _ _ => ⟨nofun, rfl, le_refl 5, rfl⟩

theorem witness_RoundTrip :
    let s := State.reset.setRequests [.buffer (addressText 0x0100A8C0), .load, .parse]
    s.Ready ∧ Memory.wf 16 s.win = true ∧ 5 ≤ s.lenW ∧ s.requests = [.buffer (addressText 0x0100A8C0), .load, .parse] :=
  ⟨nofun, rfl, by decide, rfl⟩

/-- The least port width. -/
theorem witness_ResetHasInvariant : 5 ≤ State.reset.lenW := by decide

/-- In the middle of a transaction, and at its end. -/
theorem witness_StepKeepsInvariant :
    ((run1234 9).Inv ∧ ∃ t, step (run1234 9) = .next t) ∧ ((run1234 19).Inv ∧ ∃ t, step (run1234 19) = .next t) :=
  ⟨⟨inv_run1234 9 (by decide), exists_next (by decide)⟩, ⟨inv_run1234 19 (by decide), exists_next (by decide)⟩⟩

theorem witness_InvariantNeverStops : (run1234 0).Inv ∧ (run1234 18).Inv :=
  ⟨inv_run1234 0 (by decide), inv_run1234 18 (by decide)⟩

theorem witness_OkIsConjunction :
    ((run1234 19).Inv ∧ (run1234 19).txn.stage = .doneOk) ∧
      ((withTxn (refTxn w1234 16 1)).Inv ∧ (withTxn (refTxn w1234 16 1)).txn.stage = .doneReject) :=
  ⟨⟨inv_run1234 19 (by decide), by decide⟩, ⟨inv_rejected, by decide⟩⟩

theorem witness_WrittenOnce :
    (run1234 18).Inv ∧ (run1234 18).txn.stage = .run 18 ∧ (∃ t, step (run1234 18) = .next t) ∧
      (run1234 18).txn.b = some #v[1, 2, 3, 4] :=
  ⟨inv_run1234 18 (by decide), by decide, exists_next (by decide), by decide⟩

/-- The first operation, the last, and a gate that rejects. -/
theorem witness_StageNeverDecreases :
    ((run1234 0).txn.stage = .run 0 ∧ ∃ t, step (run1234 0) = .next t) ∧
      ((run1234 18).txn.stage = .run 18 ∧ ∃ t, step (run1234 18) = .next t) ∧
      ((withTxn (Txn.fresh w1234 16)).txn.stage = .run 0 ∧ ∃ t, step (withTxn (Txn.fresh w1234 16)) = .next t) :=
  ⟨⟨by decide, exists_next (by decide)⟩, ⟨by decide, exists_next (by decide)⟩, ⟨by decide, exists_next (by decide)⟩⟩

theorem witness_NotInterruptible : (run1234 8).txn.stage = .run 8 ∧ ∃ t, step (run1234 8) = .next t :=
  ⟨by decide, exists_next (by decide)⟩

theorem witness_CombinationalPorts : (ports1234 7).pipe = [] ∧ ∃ t, exec .parse (ports1234 7) = .next t := ⟨rfl, _, rfl⟩

/-- An absent outcome for `LAT` = 0, and a rank that is not valid for `LAT` = 1. -/
theorem witness_AbsentResultIsZero :
    (ports1234 16).portOk = false ∧ (State.resetWith 5 1).portOutValid = some false := ⟨by decide, rfl⟩

/-- A cycle that presents "1.2.3.4" (`window` = 0x342E332E322E31) with one more behind it, for `LAT` = 2, and one in reset. -/
theorem witness_ClockedDelivery :
    ∀ c ∈ [CycleIn.mk false true 0x342E332E322E31 7, CycleIn.mk true true 0 7],
      let after := [CycleIn.mk false false 0 0]
      let s := (State.resetWith 5 2).setRequests (cycleRequests ([] ++ c :: after))
      s.Ready ∧ Memory.wf 16 s.win = true ∧ s.requests = cycleRequests ([] ++ c :: after) ∧ s.pipe.length = after.length + 1 ∧
        ∀ x ∈ after, x.rst = false :=
  fun _ _ => ⟨nofun, rfl, rfl, rfl, by decide⟩

theorem witness_ResetDiscardsInFlight :
    let c := CycleIn.mk false true 0x342E332E322E31 7
    let after := [CycleIn.mk true true 0 0]
    let s := (State.resetWith 5 2).setRequests (cycleRequests ([] ++ c :: after))
    s.Ready ∧ s.requests = cycleRequests ([] ++ c :: after) ∧ s.pipe.length = after.length + 1 ∧ ∃ x ∈ c :: after, x.rst = true :=
  ⟨nofun, rfl, rfl, by decide⟩

end Sys2Proof.Tests
end

section
/-!
PROOFS of the family `20_memory.md`: the port width keeps a long input recognisable as long (R7, R32), `LENCHK` rejects it (R60),
and the chain ends at its first gate that fails (R97).
-/

namespace Sys2Proof.Machine

open Sys2Proof

/-! ## The meanings of the two composed operations -/

theorem exec_load (s : State) : exec .load s = execLoad s := rfl

theorem exec_parse (s : State) : exec .parse s = execParse s := rfl

/-! ## The length -/

/-- The gate G0 fails on the lengths above 15, and on no other (R60). -/
theorem lengthOk_eq_false_iff (len : Nat) : lengthOk len = false ↔ 15 < len := by
  rw [lengthOk, decide_eq_false_iff_not, Config.maxLen, not_le]

/-- Saturation at a port of at least 5 bits leaves a length above 15 above 15: 31 is the least bound (R7, R32). -/
theorem lt_loadLength {lenW n : Nat} (hw : 5 ≤ lenW) (hn : 15 < n) : 15 < loadLength lenW n := by
  have hpow : 2 ^ 5 ≤ 2 ^ lenW := Nat.pow_le_pow_right (by decide) hw
  unfold loadLength
  omega

/-! ## A rejection by G0 -/

/-- The cause of a rejection by G0, whatever the other flags hold (R113). -/
@[simp] theorem reject_len_cause (t : Txn) : (t.reject .len).cause = some .len := rfl

/-- `LENCHK` on a length above 15 rejects (R60). -/
theorem execLenchk_of_long {s : State} {len : Nat} (hlen : s.txn.len = some len) (hlong : 15 < len) :
    execLenchk s = .next (s.setTxn (s.txn.reject .len)) := by
  rw [execLenchk, hlen, need_some, (lengthOk_eq_false_iff len).2 hlong, gate_fail]

/-- The chain ends at an operation that rejects: what follows it is not run (R97). -/
theorem runOps_cons_of_reject {op : State → Out} {s s' : State} (ops : List (State → Out)) (hop : op s = .next s')
    (hstage : s'.txn.stage = .doneReject) : runOps (op :: ops) s = .next s' := by
  simp only [runOps, hop, if_pos hstage]

/-- `PARSE` on a length above 15 leaves the presented transaction rejected by G0, with nothing else run (R60, R97). -/
theorem execParse_of_long {s : State} (hlong : 15 < s.length) :
    execParse s = .next (s.setTxn ((Txn.fresh (Memory.lanes s.win) s.length).reject .len)) :=
  runOps_cons_of_reject _ (execLenchk_of_long (s := s.present) rfl hlong) (reject_stage _ _)

/-- Settles O37: `LOAD` leaves a length that still exceeds 15, and `PARSE` rejects it by G0. -/
theorem longInputRejected : Obligations.LongInputRejected := by
  intro s hw hn
  have hlong : 15 < loadLength s.lenW s.hostLen := lt_loadLength hw hn
  exact ⟨_, _, exec_load s, (exec_parse _).trans (execParse_of_long hlong),
    reject_stage _ _, reject_ok _ _, reject_res _ _, reject_len_cause _⟩

end Sys2Proof.Machine
end

section
/-!
PROOFS of the family `30_encoding.md`: the PatternIDs below 81 number the legal shapes (R46), and `PIDROM` inverts the hash on
their valid bitmaps and holds the sentinel elsewhere (R47).
-/

namespace Sys2Proof.Machine

open Sys2Proof

/-! ## The numbering of the shapes (R46) -/

/-- The four bounds that make a shape legal (R44). -/
theorem shape_wellFormed_iff (sh : Shape) :
    sh.wellFormed = true ↔
      (1 ≤ sh.l0 ∧ sh.l0 ≤ 3) ∧ (1 ≤ sh.l1 ∧ sh.l1 ≤ 3) ∧ (1 ≤ sh.l2 ∧ sh.l2 ≤ 3) ∧ (1 ≤ sh.l3 ∧ sh.l3 ≤ 3) := by
  simp only [Shape.wellFormed, groupLengthOk, Bool.and_eq_true, decide_eq_true_eq, and_assoc]

/-- The numbering is in base 3, with digits l_g - 1: a legal shape has a number below 81 = 3^4. -/
theorem shapePid_lt {sh : Shape} (h : sh.wellFormed = true) : shapePid sh < Config.nPat := by
  obtain ⟨h0, h1, h2, h3⟩ := (shape_wellFormed_iff sh).1 h
  unfold shapePid Config.nPat
  omega

/-- A legal shape is read back from its PatternID, digit by digit. -/
theorem pidShape_shapePid {sh : Shape} (h : sh.wellFormed = true) : pidShape (shapePid sh) = sh := by
  obtain ⟨h0, h1, h2, h3⟩ := (shape_wellFormed_iff sh).1 h
  obtain ⟨l0, l1, l2, l3⟩ := sh
  simp only [pidShape, shapePid, Shape.mk.injEq] at *
  omega

/-- Every PatternID below 81 is that of a legal shape. -/
theorem pidShape_wellFormed {pid : Nat} (h : pid < Config.nPat) : (pidShape pid).wellFormed = true := by
  rw [shape_wellFormed_iff]
  simp only [pidShape, Config.nPat] at *
  omega

/-! ## The two readings of the table (R47) -/

/-- By PatternID: the entry at the hash code of pattern p is p. This evaluates the 81 valid bitmaps (R51). -/
theorem pidrom_refHash_pidShape :
    ∀ pid : Fin Config.nPat, pidrom (refHash (shapeBitmap (pidShape pid))) = BitVec.ofNat 8 pid := by
  decide

/-- By hash code: an entry is the sentinel, or it is a PatternID and stands at the code of its own shape (R12). This evaluates the
256 entries, and needs no search among the shapes for the one that has a given code. -/
theorem pidrom_sentinel_or_live :
    ∀ h : Byte, pidrom h = Config.sentinel ∨
      (pidrom h).toNat < Config.nPat ∧ refHash (shapeBitmap (pidShape (pidrom h).toNat)) = h := by
  decide

/-- The entry of a legal shape is the shape's PatternID. -/
theorem pidrom_refHash_shapeBitmap {sh : Shape} (h : sh.wellFormed = true) :
    pidrom (refHash (shapeBitmap sh)) = BitVec.ofNat 8 (shapePid sh) := by
  have hp := pidrom_refHash_pidShape ⟨shapePid sh, shapePid_lt h⟩
  rwa [pidShape_shapePid h] at hp

/-- An entry that no legal shape has the code of is the sentinel: otherwise the shape of its PatternID would have that code. -/
theorem pidrom_eq_sentinel {h : Byte} (hno : ∀ sh : Shape, sh.wellFormed = true → refHash (shapeBitmap sh) ≠ h) :
    pidrom h = Config.sentinel := by
  obtain hs | ⟨hlt, hcode⟩ := pidrom_sentinel_or_live h
  · exact hs
  · exact absurd hcode (hno _ (pidShape_wellFormed hlt))

/-- Settles O8: the first clause through the numbering of the shapes, the second through that of the hash codes. -/
theorem pidromContents : Obligations.PidromContents :=
  ⟨fun _ h => pidrom_refHash_shapeBitmap h, fun _ hno => pidrom_eq_sentinel hno⟩

end Sys2Proof.Machine
end

section
/-!
PROOFS of the family `40_separator_locator.md`: what the four operations of the separator locator write (R60 to R63), and that they
change nothing else.
-/

namespace Sys2Proof.Machine

open Sys2Proof

/-! ## The meanings of the four operations -/

theorem exec_lenchk (s : State) : exec .lenchk s = execLenchk s := rfl

theorem exec_cmpsep (s : State) : exec .cmpsep s = execCmpsep s := rfl

theorem exec_bitmask (s : State) : exec .bitmask s = execBitmask s := rfl

theorem exec_lenmask (s : State) : exec .lenmask s = execLenmask s := rfl

/-! ## The operations on written operands: one equation each -/

/-- A rejection by G0 writes `g0`, the outputs and the stage index (R115). Said once here: `rfl` on the nested updates is costly. -/
theorem reject_len_eq (t : Txn) :
    t.reject .len = { t with g0 := some false, ok := some false, res := some 0, stage := .doneReject } := by
  simp only [Txn.reject, Txn.setGate, Txn.setG0, Txn.setOk, Txn.setRes, Txn.goto]

/-- The gate G0 passes on the lengths up to 15, and on no other (R60). -/
theorem lengthOk_eq_true_iff (len : Nat) : lengthOk len = true ↔ len ≤ 15 := decide_eq_true_iff

/-- `LENCHK` on a length of at most 15 passes (R60); `execLenchk_of_long` is its other branch. -/
theorem execLenchk_of_short {s : State} {len : Nat} (hlen : s.txn.len = some len) (hshort : len ≤ 15) :
    execLenchk s = .next (s.setTxn ((s.txn.setG0 true).goto (.run 1))) := by
  rw [execLenchk, hlen, need_some, (lengthOk_eq_true_iff len).2 hshort, gate_pass, Txn.setGate]

theorem execCmpsep_of_w {s : State} {w : Window} (hw : s.txn.w = some w) :
    execCmpsep s = .next (s.setTxn ((s.txn.setCmp (cmpsepValue w)).goto (.run 2))) := by
  rw [execCmpsep, hw, need_some, advance_eq]

theorem execBitmask_of_cmp {s : State} {cmp : Lanes Bool} (hcmp : s.txn.cmp = some cmp) :
    execBitmask s = .next (s.setTxn ((s.txn.setRawbm (bitmaskValue cmp)).goto (.run 3))) := by
  rw [execBitmask, hcmp, need_some, advance_eq]

theorem execLenmask_of_rawbm_of_len {s : State} {rawbm : BitVec 16} {len : Nat} (hraw : s.txn.rawbm = some rawbm)
    (hlen : s.txn.len = some len) :
    execLenmask s = .next (s.setTxn ((s.txn.setBm (lenmaskValue rawbm len)).goto (.run 4))) := by
  rw [execLenmask, hraw, need_some, hlen, need_some, advance_eq]

/-! ## The values -/

/-- A lane of `CMP` is 1 exactly where the window holds the separator (R61). -/
theorem cmpsepValue_eq_true_iff (w : Window) (i : Fin 16) : (cmpsepValue w)[i] = true ↔ w[i] = Config.sep := by
  rw [Fin.getElem_fin, cmpsepValue_get, beq_iff_eq, Fin.getElem_fin]

/-- The number of a list of booleans is the sum of the weights of those that are true (R26). -/
theorem bitsValue_ofFn {n : Nat} (f : Fin n → Bool) :
    bitsValue (List.ofFn f) = ∑ i, if f i = true then 2 ^ i.val else 0 := by
  induction n with
  | zero => rfl
  | succ n ih =>
    rw [List.ofFn_succ, bitsValue, ih, Fin.sum_univ_succ, Finset.mul_sum]
    simp only [mul_ite, mul_zero, Fin.val_zero, pow_zero, Fin.val_succ, pow_succ']

/-- `RAWBM` as a number: 16 lanes fit in 16 bits, so that nothing of the sum is cut off (R62). -/
theorem bitmaskValue_toNat (cmp : Lanes Bool) :
    (bitmaskValue cmp).toNat = ∑ i : Fin 16, if cmp[i] = true then 2 ^ i.val else 0 := by
  have hlt : bitsValue cmp.toList < 2 ^ 16 := by simpa using bitsValue_lt cmp.toList
  have hlanes : cmp.toList = List.ofFn fun i : Fin 16 => cmp[i] := by
    refine List.ext_getElem (by simp) fun i _ _ => ?_
    rw [Vector.getElem_toList, List.getElem_ofFn, Fin.getElem_fin]
  rw [bitmaskValue, BitVec.toNat_ofNat, Nat.mod_eq_of_lt hlt, hlanes, bitsValue_ofFn]

/-- `BM` is R63's formula on the lengths that `LENCHK` lets pass. -/
theorem lenmaskValue_of_le {len : Nat} (rawbm : BitVec 16) (h : len ≤ 15) :
    lenmaskValue rawbm len = (rawbm &&& BitVec.ofNat 16 (2 ^ len - 1)) ||| BitVec.ofNat 16 (2 ^ len) :=
  if_pos h

/-- The bits of `BM`: those of `RAWBM` below `LEN`, the guard at `LEN`, none above (R63). -/
theorem lenmaskValue_getLsbD {len i : Nat} (rawbm : BitVec 16) (hlen : len ≤ 15) (hi : i < 16) :
    (lenmaskValue rawbm len).getLsbD i = if i < len then rawbm.getLsbD i else decide (i = len) := by
  have hkept : (BitVec.ofNat 16 (2 ^ len - 1)).getLsbD i = decide (i < len) := by
    rw [BitVec.getLsbD_ofNat, Nat.testBit_two_pow_sub_one, decide_eq_true hi, Bool.true_and]
  have hguard : (BitVec.ofNat 16 (2 ^ len)).getLsbD i = decide (len = i) := by
    rw [BitVec.getLsbD_ofNat, Nat.testBit_two_pow, decide_eq_true hi, Bool.true_and]
  rw [lenmaskValue_of_le rawbm hlen, BitVec.getLsbD_or, BitVec.getLsbD_and, hkept, hguard]
  obtain hlt | heq | hgt := lt_trichotomy i len
  · simp [hlt, hlt.ne']
  · simp [heq]
  · simp [hgt.not_gt, hgt.ne, hgt.ne']

/-! ## The statements of the family -/

/-- Settles O10: the two branches of the gate G0. -/
theorem lenchkGate : Obligations.LenchkGate := by
  intro s n hlen
  constructor
  · intro hshort
    rw [exec_lenchk, execLenchk_of_short hlen hshort, State.setTxn, Txn.setG0, Txn.goto]
  · intro hlong
    rw [exec_lenchk, execLenchk_of_long hlen hlong, State.setTxn, reject_len_eq]

/-- Settles O11: the vector is `cmpsepValue`, fixed lane by lane. -/
theorem cmpsepCompares : Obligations.CmpsepCompares :=
  fun s w hw => ⟨cmpsepValue w, cmpsepValue_eq_true_iff w, (exec_cmpsep s).trans (execCmpsep_of_w hw)⟩

/-- Settles O12: the sum by induction on the lanes, and its bound. -/
theorem bitmaskSums : Obligations.BitmaskSums :=
  fun s cmp hcmp => ⟨bitmaskValue cmp, bitmaskValue_toNat cmp, (exec_bitmask s).trans (execBitmask_of_cmp hcmp)⟩

/-- Settles O13: the formula, its bits below, at and above `LEN`, and the operation. -/
theorem lenmaskMasks : Obligations.LenmaskMasks :=
  fun s rawbm _ hraw hlen hle =>
    ⟨lenmaskValue rawbm _, lenmaskValue_of_le rawbm hle, fun _ hi => lenmaskValue_getLsbD rawbm hle hi,
      (exec_lenmask s).trans (execLenmask_of_rawbm_of_len hraw hlen)⟩

end Sys2Proof.Machine
end

section
/-!
PROOFS of the family `41_hash_dispatcher.md`: `HASH` writes the exact product and its bits 20 to 13 (R67), and changes nothing else.
-/

namespace Sys2Proof.Machine

open Sys2Proof

/-! ## The hash product and the hash code as numbers -/

/-- The greatest product, 6639 × 0xFFFF, fits in the 29 bits of `PROD` (R45). -/
theorem hashMul_mul_toNat_lt (bm : BitVec 16) : Config.hashMul * bm.toNat < 2 ^ 29 := by
  have hbm : bm.toNat < 2 ^ 16 := bm.isLt
  unfold Config.hashMul
  omega

/-- `PROD` as a number: 29 bits cut nothing off the product (R45, R67). -/
theorem hashProduct_toNat (bm : BitVec 16) : (hashProduct bm).toNat = Config.hashMul * bm.toNat := by
  rw [hashProduct, BitVec.toNat_ofNat, Nat.mod_eq_of_lt (hashMul_mul_toNat_lt bm)]

/-- `HC` as a number: the eight bits of `PROD` from bit 13 up (R45, R67). -/
theorem hashCode_toNat (prod : BitVec 29) : (hashCode prod).toNat = prod.toNat / 2 ^ Config.hashShift % 2 ^ 8 := by
  rw [hashCode, BitVec.extractLsb'_toNat, Nat.shiftRight_eq_div_pow]

/-! ## The operation -/

theorem exec_hash (s : State) : exec .hash s = execHash s := rfl

theorem execHash_of_bm {s : State} {bm : BitVec 16} (hbm : s.txn.bm = some bm) :
    execHash s =
      .next (s.setTxn (((s.txn.setProd (hashProduct bm)).setHc (hashCode (hashProduct bm))).goto (.run 5))) := by
  rw [execHash, hbm, need_some, advance_eq]

/-- Settles O14: the product by its bound, the hash code by its bits, and the operation. -/
theorem hashMultiplies : Obligations.HashMultiplies := by
  intro s bm hbm
  refine ⟨hashProduct bm, hashCode (hashProduct bm), hashProduct_toNat bm, hashCode_toNat _, ?_⟩
  rw [exec_hash, execHash_of_bm hbm, State.setTxn, Txn.setProd, Txn.setHc, Txn.goto]

end Sys2Proof.Machine
end

section
/-!
PROOFS of the family `42_lane_gatherer.md`: `GATHER` copies to each lane its source byte, or the placeholder of a lane that has none
(R75), and changes nothing else.
-/

namespace Sys2Proof.Machine

open Sys2Proof

/-! ## The gathered lanes -/

/-- A lane whose selector is an index holds the byte of that index, whichever lane it is (R75). -/
theorem gatherValue_of_index (w : Window) {d : Descriptor} {i k : Fin 16} (h : d[i] = .index k) :
    (gatherValue w d)[i] = w[k] := by
  rw [Fin.getElem_fin] at h
  rw [Fin.getElem_fin, gatherValue_get, h, laneByte_index]

/-- A miss lane holds the placeholder, whatever the window holds (R5, R75). -/
theorem gatherValue_of_miss (w : Window) {d : Descriptor} {i : Fin 16} (h : d[i] = .miss) :
    (gatherValue w d)[i] = Config.missByte := by
  rw [Fin.getElem_fin] at h
  rw [Fin.getElem_fin, gatherValue_get, h, laneByte_miss]

/-! ## The operation -/

theorem exec_gather (s : State) : exec .gather s = execGather s := rfl

theorem execGather_of_w_of_desc {s : State} {w : Window} {d : Descriptor} (hw : s.txn.w = some w)
    (hdesc : s.txn.desc = some d) :
    execGather s = .next (s.setTxn ((s.txn.setGl (gatherValue w d)).goto (.run 9))) := by
  rw [execGather, hw, need_some, hdesc, need_some, advance_eq]

/-- Settles O19: the two cases of a lane's selector, and the operation. -/
theorem gatherLanes : Obligations.GatherLanes := by
  intro s w d hw hdesc
  refine ⟨gatherValue w d, fun _ _ => gatherValue_of_index w, fun _ => gatherValue_of_miss w, ?_⟩
  rw [exec_gather, execGather_of_w_of_desc hw hdesc, State.setTxn, Txn.setGl, Txn.goto]

end Sys2Proof.Machine
end

section
/-!
PROOFS of the family `43_digit_validator.md`: the lanes that `CANON` and `SUBZERO` write (R81, R82), the two branches of the gate G4
(R83), and that the three operations change nothing else.
-/

namespace Sys2Proof.Machine

open Sys2Proof

/-! ## The canonical lanes and the digit lanes -/

/-- A lane of `CL`: the selector decides, not the gathered byte (R81). -/
theorem canonValue_getElem_fin (gl : Lanes Byte) (d : Descriptor) (i : Fin 16) :
    (canonValue gl d)[i] = if d[i] = .miss then 0x30 else gl[i] := by
  simp only [Fin.getElem_fin, canonValue_get, Config.zero]

/-- A lane of `DL` as a number: to subtract 0x30 modulo 256 is to add 0xD0 (R82). -/
theorem subzeroValue_toNat (cl : Lanes Byte) (i : Fin 16) :
    (subzeroValue cl)[i].toNat = (cl[i].toNat + 0xD0) % 256 := by
  have hzero : (2 ^ 8 - Config.zero.toNat : Nat) = 0xD0 := rfl
  rw [Fin.getElem_fin, subzeroValue_get, BitVec.toNat_sub, hzero, Nat.add_comm, Fin.getElem_fin]

/-! ## The gate G4 -/

/-- The gate G4 passes when all 16 lanes are at most 9 (R83). -/
theorem digitsOk_eq_true_iff (dl : Lanes Byte) : digitsOk dl = true ↔ ∀ i : Fin 16, dl[i].toNat ≤ 9 :=
  decide_eq_true_iff

/-- The gate G4 fails when one lane exceeds 9, whichever it is (R83). -/
theorem digitsOk_eq_false_iff (dl : Lanes Byte) : digitsOk dl = false ↔ ∃ i : Fin 16, 9 < dl[i].toNat := by
  rw [← Bool.not_eq_true, digitsOk_eq_true_iff, not_forall]
  simp only [not_le]

/-- A rejection writes the flag of its gate, the outputs and the stage index, whatever the cause (R115). -/
theorem reject_eq (t : Txn) (c : Cause) :
    t.reject c = { t.setGate c false with ok := some false, res := some 0, stage := .doneReject } := by
  simp only [Txn.reject, Txn.setOk, Txn.setRes, Txn.goto]

/-! ## The operations on written operands: one equation each -/

theorem exec_canon (s : State) : exec .canon s = execCanon s := rfl

theorem exec_subzero (s : State) : exec .subzero s = execSubzero s := rfl

theorem exec_digchk (s : State) : exec .digchk s = execDigchk s := rfl

theorem execCanon_of_gl_of_desc {s : State} {gl : Lanes Byte} {d : Descriptor} (hgl : s.txn.gl = some gl)
    (hdesc : s.txn.desc = some d) :
    execCanon s = .next (s.setTxn ((s.txn.setCl (canonValue gl d)).goto (.run 11))) := by
  rw [execCanon, hgl, need_some, hdesc, need_some, advance_eq]

theorem execSubzero_of_cl {s : State} {cl : Lanes Byte} (hcl : s.txn.cl = some cl) :
    execSubzero s = .next (s.setTxn ((s.txn.setDl (subzeroValue cl)).goto (.run 12))) := by
  rw [execSubzero, hcl, need_some, advance_eq]

/-- `DIGCHK` on digit lanes all at most 9 passes (R83). -/
theorem execDigchk_of_digits {s : State} {dl : Lanes Byte} (hdl : s.txn.dl = some dl)
    (hdigits : ∀ i : Fin 16, dl[i].toNat ≤ 9) :
    execDigchk s = .next (s.setTxn ((s.txn.setG4 true).goto (.run 13))) := by
  rw [execDigchk, hdl, need_some, (digitsOk_eq_true_iff dl).2 hdigits, gate_pass, Txn.setGate]

/-- `DIGCHK` on a lane above 9 rejects (R83). -/
theorem execDigchk_of_nondigit {s : State} {dl : Lanes Byte} (hdl : s.txn.dl = some dl)
    (hnondigit : ∃ i : Fin 16, 9 < dl[i].toNat) :
    execDigchk s = .next (s.setTxn (s.txn.reject .digitRange)) := by
  rw [execDigchk, hdl, need_some, (digitsOk_eq_false_iff dl).2 hnondigit, gate_fail]

/-! ## The statements of the family -/

/-- Settles O21: the vector is `canonValue`, fixed lane by lane. -/
theorem canonLanes : Obligations.CanonLanes := by
  intro s gl d hgl hdesc
  refine ⟨canonValue gl d, canonValue_getElem_fin gl d, ?_⟩
  rw [exec_canon, execCanon_of_gl_of_desc hgl hdesc, State.setTxn, Txn.setCl, Txn.goto]

/-- Settles O22: the vector is `subzeroValue`, fixed lane by lane as a number. -/
theorem subzeroLanes : Obligations.SubzeroLanes := by
  intro s cl hcl
  refine ⟨subzeroValue cl, subzeroValue_toNat cl, ?_⟩
  rw [exec_subzero, execSubzero_of_cl hcl, State.setTxn, Txn.setDl, Txn.goto]

/-- Settles O23: the two branches of the gate G4. -/
theorem digchkGate : Obligations.DigchkGate := by
  intro s dl hdl
  constructor
  · intro hdigits
    rw [exec_digchk, execDigchk_of_digits hdl hdigits, State.setTxn, Txn.setG4, Txn.goto]
  · intro hnondigit
    rw [exec_digchk, execDigchk_of_nondigit hdl hnondigit, State.setTxn, reject_eq, Txn.setGate, Txn.setG4]

end Sys2Proof.Machine
end

section
/-!
PROOFS of the family `44_weighted_accumulator.md`: the lanes that `WMUL`, `PAIRADD` and `FOLD` write, as natural numbers (R86 to
R88), the two branches of the gate G5 (R89), and that the four operations change nothing else.
-/

namespace Sys2Proof.Machine

open Sys2Proof

/-! ## The weighted lanes and their sums as numbers -/

/-- The weight of a position is the entry of R86's list there. -/
theorem laneWeight_eq_getElem (i : Fin 16) :
    laneWeight i = (#v[1, 10, 1, 10, 1, 10, 1, 10, 100, 0, 100, 0, 100, 0, 100, 0] : Lanes Nat)[i] := by
  have hentry : ((List.finRange 16).map laneWeight)[i.val]'(by simp) = laneWeight i := by simp
  simp only [← hentry, laneWeight_list]
  rfl

theorem laneWeight_le (i : Fin 16) : laneWeight i ≤ 100 := by
  unfold laneWeight
  cases laneRole i <;> decide

/-- The greatest product, 255 × 100, fits in 16 bits, so that no digit check is needed (R86). -/
theorem toNat_mul_laneWeight_lt (b : Byte) (i : Fin 16) : b.toNat * laneWeight i < 2 ^ 16 :=
  calc b.toNat * laneWeight i ≤ 255 * 100 := Nat.mul_le_mul (Nat.le_of_lt_succ b.isLt) (laneWeight_le i)
    _ < 2 ^ 16 := by decide

/-- A lane of `P` as a number: the widening cuts nothing off the product (R86). -/
theorem wmulValue_toNat (dl : Lanes Byte) (i : Fin 16) :
    (wmulValue dl)[i].toNat = dl[i].toNat * laneWeight i := by
  rw [Fin.getElem_fin, wmulValue_get, BitVec.toNat_ofNat, Nat.mod_eq_of_lt (toNat_mul_laneWeight_lt _ i), Fin.getElem_fin]

/-- A lane of `PS` as a number: 16-bit addition wraps at 65536 (R87). -/
theorem pairaddValue_toNat (p : Lanes (BitVec 16)) (j : Fin 8) :
    (pairaddValue p)[j].toNat = (p[2 * j.val].toNat + p[2 * j.val + 1].toNat) % 65536 := by
  rw [Fin.getElem_fin, pairaddValue_get, BitVec.toNat_add]

/-- A group's sum as a number: 16-bit addition wraps at 65536 (R88). -/
theorem foldValue_toNat (ps : Vector (BitVec 16) 8) (g : Fin 4) :
    (foldValue ps)[g].toNat = (ps[g.val].toNat + ps[g.val + 4].toNat) % 65536 := by
  rw [Fin.getElem_fin, foldValue_get, BitVec.toNat_add]

/-! ## The gate G5 -/

/-- The gate G5 passes when all four sums are at most 255 (R89). -/
theorem sumsOk_eq_true_iff (v : Vector (BitVec 16) 4) : sumsOk v = true ↔ ∀ g : Fin 4, v[g].toNat ≤ 255 :=
  decide_eq_true_iff

/-- The gate G5 fails when one sum exceeds 255, whichever it is (R89). -/
theorem sumsOk_eq_false_iff (v : Vector (BitVec 16) 4) : sumsOk v = false ↔ ∃ g : Fin 4, 255 < v[g].toNat := by
  rw [← Bool.not_eq_true, sumsOk_eq_true_iff, not_forall]
  simp only [not_le]

/-! ## The operations on written operands: one equation each -/

theorem exec_wmul (s : State) : exec .wmul s = execWmul s := rfl

theorem exec_pairadd (s : State) : exec .pairadd s = execPairadd s := rfl

theorem exec_fold (s : State) : exec .fold s = execFold s := rfl

theorem exec_ovfchk (s : State) : exec .ovfchk s = execOvfchk s := rfl

theorem execWmul_of_dl {s : State} {dl : Lanes Byte} (hdl : s.txn.dl = some dl) :
    execWmul s = .next (s.setTxn ((s.txn.setP (wmulValue dl)).goto (.run 14))) := by
  rw [execWmul, hdl, need_some, advance_eq]

theorem execPairadd_of_p {s : State} {p : Lanes (BitVec 16)} (hp : s.txn.p = some p) :
    execPairadd s = .next (s.setTxn ((s.txn.setPs (pairaddValue p)).goto (.run 15))) := by
  rw [execPairadd, hp, need_some, advance_eq]

theorem execFold_of_ps {s : State} {ps : Vector (BitVec 16) 8} (hps : s.txn.ps = some ps) :
    execFold s = .next (s.setTxn ((s.txn.setS (foldValue ps)).goto (.run 16))) := by
  rw [execFold, hps, need_some, advance_eq]

/-- `OVFCHK` on sums all at most 255 passes (R89). -/
theorem execOvfchk_of_octets {s : State} {v : Vector (BitVec 16) 4} (hs : s.txn.s = some v)
    (hoctets : ∀ g : Fin 4, v[g].toNat ≤ 255) :
    execOvfchk s = .next (s.setTxn ((s.txn.setG5 true).goto (.run 17))) := by
  rw [execOvfchk, hs, need_some, (sumsOk_eq_true_iff v).2 hoctets, gate_pass, Txn.setGate]

/-- `OVFCHK` on a sum above 255 rejects (R89). -/
theorem execOvfchk_of_overflow {s : State} {v : Vector (BitVec 16) 4} (hs : s.txn.s = some v)
    (hoverflow : ∃ g : Fin 4, 255 < v[g].toNat) :
    execOvfchk s = .next (s.setTxn (s.txn.reject .overflow)) := by
  rw [execOvfchk, hs, need_some, (sumsOk_eq_false_iff v).2 hoverflow, gate_fail]

/-! ## The statements of the family -/

/-- Settles O24: the products by their bound, the weights by position, and the operation. -/
theorem wmulLanes : Obligations.WmulLanes := by
  intro s dl hdl
  refine ⟨wmulValue dl, fun i => ?_, ?_⟩
  · rw [wmulValue_toNat, laneWeight_eq_getElem]
  · rw [exec_wmul, execWmul_of_dl hdl, State.setTxn, Txn.setP, Txn.goto]

/-- Settles O25: the vector is `pairaddValue`, fixed lane by lane as a number. -/
theorem pairaddLanes : Obligations.PairaddLanes := by
  intro s p hp
  refine ⟨pairaddValue p, pairaddValue_toNat p, ?_⟩
  rw [exec_pairadd, execPairadd_of_p hp, State.setTxn, Txn.setPs, Txn.goto]

/-- Settles O26: the vector is `foldValue`, fixed group by group as a number. -/
theorem foldLanes : Obligations.FoldLanes := by
  intro s ps hps
  refine ⟨foldValue ps, foldValue_toNat ps, ?_⟩
  rw [exec_fold, execFold_of_ps hps, State.setTxn, Txn.setS, Txn.goto]

/-- Settles O28: the two branches of the gate G5. -/
theorem ovfchkGate : Obligations.OvfchkGate := by
  intro s v hs
  constructor
  · intro hoctets
    rw [exec_ovfchk, execOvfchk_of_octets hs hoctets, State.setTxn, Txn.setG5, Txn.goto]
  · intro hoverflow
    rw [exec_ovfchk, execOvfchk_of_overflow hs hoverflow, State.setTxn, reject_eq, Txn.setGate, Txn.setG5]

end Sys2Proof.Machine
end

section
/-!
PROOFS of the family `other`, the codes: the decoder and the encoder undo each other (R57), the 81 `SHAPE` rows are the legal shapes
(R51), and what a step decodes (R15, R57).
-/

namespace Sys2Proof.Machine

open Sys2Proof

/-! ## Every row of the table -/

/-- No two rows share a code, and no bit of a code is dropped. This evaluates the decoder on the 102 codes. -/
theorem decode_encode (i : Instr) : decode (encode i) = .ok i := by
  cases i <;> rfl

/-- Settles O1. -/
theorem decodeOfEncode : Obligations.DecodeOfEncode :=
  fun i _ => decode_encode i

/-- The 32 row keys: one that has a row is the key of that row. -/
theorem encode_of_decodeStage : ∀ (key : BitVec 5) (i : Instr), decodeStage key = .ok i → encode i = .stage key := by
  have hkeys : ∀ key : BitVec 5, ∀ i ∈ (decodeStage key).toOption, encode i = .stage key := by decide
  intro key i h
  exact hkeys key i (by rw [h]; rfl)

/-- A `SHAPE` row's word is the code of the row's instruction. -/
theorem encode_instr_of_mem_shapeRows : ∀ r ∈ shapeRows, encode r.instr = .bitmap r.word := by
  decide

/-- A bitmap that decodes is the word of a row. -/
theorem mem_shapeRows_of_decodeBitmap {bm : BitVec 16} {i : Instr} (h : decodeBitmap bm = .ok i) :
    ∃ r ∈ shapeRows, r.word = bm ∧ r.instr = i := by
  unfold decodeBitmap at h
  split at h
  next r hfind =>
    exact ⟨r, List.mem_of_find?_eq_some hfind, by simpa using List.find?_some hfind, Except.ok.inj h⟩
  next => cases h

/-- Settles O2: a row key by the list of the keys, a bitmap by the row that the decoder finds. -/
theorem encodeOfDecode : Obligations.EncodeOfDecode := by
  intro c i h
  cases c with
  | stage key => exact encode_of_decodeStage key i h
  | bitmap bm =>
    obtain ⟨r, hr, rfl, rfl⟩ := mem_shapeRows_of_decodeBitmap h
    exact encode_instr_of_mem_shapeRows r hr

/-- Settles O3, by evaluation of the decoder on the seven words. -/
theorem writtenWordsDecode : Obligations.WrittenWordsDecode :=
  ⟨rfl, rfl, rfl, rfl, rfl, rfl, rfl⟩

/-! ## The `SHAPE` rows and the legal shapes -/

/-- The rows in order: row p has the bitmap and the shape of PatternID p (R46, R51). -/
theorem shapeRows_eq :
    shapeRows.map (fun r => (r.word, r.instr.shape?)) =
      (List.range Config.nPat).map fun p => (shapeBitmap (pidShape p), some (pidShape p)) := by
  decide

/-- A row is that of a legal shape, and its word is the shape's bitmap. -/
theorem shape_of_mem_shapeRows {r : ShapeRow} (h : r ∈ shapeRows) :
    ∃ sh : Shape, sh.wellFormed = true ∧ r.instr.shape? = some sh ∧ r.word = shapeBitmap sh := by
  have hmem := List.mem_map_of_mem (f := fun r : ShapeRow => (r.word, r.instr.shape?)) h
  rw [shapeRows_eq, List.mem_map] at hmem
  obtain ⟨p, hp, heq⟩ := hmem
  obtain ⟨hword, hshape⟩ := Prod.mk.inj heq
  exact ⟨pidShape p, pidShape_wellFormed (List.mem_range.1 hp), hshape.symm, hword.symm⟩

/-- Every legal shape has a row. -/
theorem exists_mem_shapeRows {sh : Shape} (h : sh.wellFormed = true) :
    ∃ r ∈ shapeRows, r.word = shapeBitmap sh := by
  have hmem : (shapeBitmap sh, some sh) ∈ shapeRows.map fun r => (r.word, r.instr.shape?) := by
    rw [shapeRows_eq, List.mem_map]
    exact ⟨shapePid sh, List.mem_range.2 (shapePid_lt h), by rw [pidShape_shapePid h]⟩
  obtain ⟨r, hr, heq⟩ := List.mem_map.1 hmem
  exact ⟨r, hr, (Prod.mk.inj heq).1⟩

/-- A bitmap decodes to the row of the legal shape whose bitmap it is. -/
theorem shape_of_decodeBitmap {bm : BitVec 16} {i : Instr} (h : decodeBitmap bm = .ok i) :
    ∃ sh : Shape, sh.wellFormed = true ∧ i.shape? = some sh ∧ bm = shapeBitmap sh := by
  obtain ⟨r, hr, rfl, rfl⟩ := mem_shapeRows_of_decodeBitmap h
  exact shape_of_mem_shapeRows hr

/-- A bitmap that does not decode is that of no legal shape, and the decoder names it (R55). -/
theorem decodeBitmap_error {bm : BitVec 16} {e : DecodeReject} (h : decodeBitmap bm = .error e) :
    e = .illegalBitmap bm ∧ ∀ sh : Shape, sh.wellFormed = true → bm ≠ shapeBitmap sh := by
  unfold decodeBitmap at h
  split at h
  next => cases h
  next hfind =>
    refine ⟨(Except.error.inj h).symm, fun sh hsh hbm => ?_⟩
    obtain ⟨r, hr, hword⟩ := exists_mem_shapeRows hsh
    exact List.find?_eq_none.1 hfind r hr (by rw [hword, hbm, beq_self_eq_true])

/-- The 81 rows have one meaning, in which the shape is the only difference. -/
theorem exec_of_shape? {i : Instr} {sh : Shape} (s : State) (h : i.shape? = some sh) : exec i s = s.selectShape sh := by
  cases i <;> cases h <;> rfl

/-! ## What a step decodes -/

theorem step_of_fetch_code {s t : State} {c : Code} {i : Instr} (hfetch : fetch s = .code c t) (hdecode : decode c = .ok i) :
    step s = exec i t := by
  simp only [step, hfetch, hdecode]

/-- Settles O4. -/
theorem stepRunsDecoded : Obligations.StepRunsDecoded :=
  fun _ _ _ _ hfetch hdecode => step_of_fetch_code hfetch hdecode

theorem fetch_of_run {s : State} {ord : Fin 19} (h : s.txn.stage = .run ord) : fetch s = .code (fetchStage s ord) s := by
  simp only [fetch, h]

/-- Where the bitmap is not read by the rows, what is fetched is the ordinal as a row key (R15). -/
theorem fetchStage_of_key {s : State} {ord : Fin 19} (h : ord = 4 → s.byDecoder = false) :
    fetchStage s ord = .stage (BitVec.ofNat 5 ord.val) :=
  if_neg fun hrows => by simp [h hrows.1] at hrows

/-- At stage 4, read by the rows, what is fetched is the bitmap (R57). -/
theorem fetchStage_of_bitmap {s : State} {bm : BitVec 16} (hrows : s.byDecoder = true) (hbm : s.txn.bm = some bm) :
    fetchStage s 4 = .bitmap bm := by
  simp [fetchStage, hrows, hbm]

/-- A step at an ordinal runs the row whose key the ordinal is. -/
theorem step_of_run {s : State} {ord : Fin 19} {i : Instr} (hstage : s.txn.stage = .run ord)
    (hkey : ord = 4 → s.byDecoder = false) (hcode : encode i = .stage (BitVec.ofNat 5 ord.val)) : step s = exec i s :=
  step_of_fetch_code (fetch_of_run hstage) (by rw [fetchStage_of_key hkey, ← hcode, decode_encode])

/-- Settles O5: the ordinal is the row key, and the key decodes to its row. -/
theorem stageSelectsOperation : Obligations.StageSelectsOperation :=
  fun _ _ _ hstage hkey hcode => step_of_run hstage hkey hcode

/-- At stage 4, read by the rows, a step runs the row of the bitmap. -/
theorem step_of_bitmap {s : State} {bm : BitVec 16} {i : Instr} (hstage : s.txn.stage = .run 4) (hrows : s.byDecoder = true)
    (hbm : s.txn.bm = some bm) (hdecode : decode (.bitmap bm) = .ok i) : step s = exec i s :=
  step_of_fetch_code ((fetch_of_run hstage).trans (by rw [fetchStage_of_bitmap hrows hbm])) hdecode

/-- At stage 4, read by the rows, a step rejects a bitmap of no row. -/
theorem step_of_undecoded {s : State} {bm : BitVec 16} {e : DecodeReject} (hstage : s.txn.stage = .run 4)
    (hrows : s.byDecoder = true) (hbm : s.txn.bm = some bm) (hdecode : decode (.bitmap bm) = .error e) :
    step s = undecoded e s := by
  simp only [step, fetch_of_run hstage, fetchStage_of_bitmap hrows hbm, hdecode]

/-- A bitmap that is no row's ends the transaction, by G1 or by G2 (R55, R115). -/
theorem rejectBitmap_cases (s : State) (bm : BitVec 16) :
    ∃ (t : Txn) (c : Cause), s.rejectBitmap bm = .next (s.setTxn (t.reject c)) := by
  simp only [State.rejectBitmap]
  split
  · exact ⟨_, .shapeConfirm, rfl⟩
  · exact ⟨_, .shapeHash, rfl⟩

/-- Settles O6: the row that has the code, or the rejection where none has it. -/
theorem bitmapSelectsShape : Obligations.BitmapSelectsShape := by
  intro s bm hstage hrows hbm
  constructor
  · intro i hcode
    exact step_of_bitmap hstage hrows hbm (by rw [← hcode, decode_encode])
  · intro hnone
    cases hdecode : decode (.bitmap bm) with
    | ok i => exact absurd (encodeOfDecode _ _ hdecode) (hnone i)
    | error e =>
      obtain ⟨rfl, -⟩ := decodeBitmap_error hdecode
      obtain ⟨t, c, heq⟩ := rejectBitmap_cases s bm
      exact ⟨_, (step_of_undecoded hstage hrows hbm hdecode).trans heq, reject_stage t c, reject_ok t c, reject_res t c⟩

/-! ## The host's acts -/

/-- Between transactions a step turns to the host, in the state without what the last transaction left (R131). -/
theorem fetch_of_ready {s : State} (h : s.Ready) : fetch s = fetchRequest s.retire := by
  unfold fetch
  split
  next ord hstage => exact absurd hstage (h ord)
  all_goals rfl

theorem step_of_host {s t : State} (h : fetch s = .host t) : step s = .next t := by
  simp only [step, h]

section FetchRequest
variable {s : State} {rest : List Request}

theorem fetchRequest_nil (h : s.requests = []) : fetchRequest s = .host s := by
  simp only [fetchRequest, h]

theorem fetchRequest_buffer {bytes : List Byte} (h : s.requests = .buffer bytes :: rest) :
    fetchRequest s = .host ((s.setRequests rest).setHost (Memory.ofBytes bytes) bytes.length) := by
  simp only [fetchRequest, h]

theorem fetchRequest_load (h : s.requests = .load :: rest) :
    fetchRequest s = .code (.stage 0x14) (s.setRequests rest) := by
  simp only [fetchRequest, h]

theorem fetchRequest_drive {bus : BitVec 128} {n : Nat} (h : s.requests = .drive bus n :: rest) :
    fetchRequest s =
      .host (((s.setRequests rest).setWin (Memory.writeFrom s.win 0 (busLanes bus).toList)).setLength n) := by
  simp only [fetchRequest, h]

theorem fetchRequest_present (h : s.requests = .present :: rest) :
    fetchRequest s = .host (s.setRequests rest).present := by
  simp only [fetchRequest, h]

theorem fetchRequest_parse (h : s.requests = .parse :: rest) :
    fetchRequest s = .code (.stage 0x13) (s.setRequests rest) := by
  simp only [fetchRequest, h]

theorem fetchRequest_cycle {rst v : Bool} (h : s.requests = .cycle rst v :: rest) :
    fetchRequest s = .host ((s.setRequests rest).clock rst v) := by
  simp only [fetchRequest, h]

end FetchRequest

/-- Settles O7: one clause for each act of the host. -/
theorem hostActsInTurn : Obligations.HostActsInTurn := by
  intro s hready
  have hfetch := fetch_of_ready hready
  refine ⟨fun h => ?_, fun rest h => ?_, fun rest h => ?_, fun rest h => ?_, fun bytes rest h => ?_, fun bus n rest h => ?_,
    fun rst v rest h => ?_⟩
  · exact step_of_host (hfetch.trans (fetchRequest_nil h))
  · exact step_of_fetch_code (hfetch.trans (fetchRequest_load h)) rfl
  · exact step_of_fetch_code (hfetch.trans (fetchRequest_parse h)) rfl
  · exact step_of_host (hfetch.trans (fetchRequest_present h))
  · exact step_of_host (hfetch.trans (fetchRequest_buffer h))
  · rw [step_of_host (hfetch.trans (fetchRequest_drive (s := s.retire) h)), State.retire_win, State.setLength, State.setWin,
      State.setRequests, State.retire, State.setTxn]
  · exact step_of_host (hfetch.trans (fetchRequest_cycle h))

end Sys2Proof.Machine
end

section
/-!
PROOFS of the family `other`, single operations: the gates G1, G2 and G3 (R68, R69, R79), `DESCSEL` (R70), the packer (R93, R94), the
accumulator as a whole (R90), the `SHAPE` rows (R57), and the stop on an operand that has no value (R9, R14).
-/

namespace Sys2Proof.Machine

open Sys2Proof

/-! ## The meanings of the remaining operations -/

theorem exec_pidlook (s : State) : exec .pidlook s = execPidlook s := rfl

theorem exec_shapeconf (s : State) : exec .shapeconf s = execShapeconf s := rfl

theorem exec_descsel (s : State) : exec .descsel s = execDescsel s := rfl

theorem exec_lzchk (s : State) : exec .lzchk s = execLzchk s := rfl

theorem exec_narrow (s : State) : exec .narrow s = execNarrow s := rfl

theorem exec_pack (s : State) : exec .pack s = execPack s := rfl

/-! ## The operations on written operands: one equation each -/

theorem execLenchk_of_len {s : State} {len : Nat} (hlen : s.txn.len = some len) :
    execLenchk s = s.gate s.txn .len (lengthOk len) 1 := by
  rw [execLenchk, hlen, need_some]

theorem execPidlook_of_hc {s : State} {hc : Byte} (hhc : s.txn.hc = some hc) :
    execPidlook s = s.gate (s.txn.setPid (pidrom hc)) .shapeHash (hashOk (pidrom hc)) 6 := by
  rw [execPidlook, hhc, need_some]

theorem execShapeconf_of_bm_of_pid {s : State} {bm : BitVec 16} {pid : Byte} (hbm : s.txn.bm = some bm)
    (hpid : s.txn.pid = some pid) : execShapeconf s = s.gate s.txn .shapeConfirm (shapeOk bm pid) 7 := by
  rw [execShapeconf, hbm, need_some, hpid, need_some]

theorem execDescsel_of_pid {s : State} {pid : Byte} (hpid : s.txn.pid = some pid) :
    execDescsel s = .next (s.setTxn ((s.txn.setDesc (descrom pid)).goto (.run 8))) := by
  rw [execDescsel, hpid, need_some, advance_eq]

theorem execLzchk_of_gl_of_desc {s : State} {gl : Lanes Byte} {d : Descriptor} (hgl : s.txn.gl = some gl)
    (hdesc : s.txn.desc = some d) :
    execLzchk s = s.gate (s.txn.setLzmask (leadingLanes d)) .leadingZero (leadingOk gl (leadingLanes d)) 10 := by
  rw [execLzchk, hgl, need_some, hdesc, need_some]

theorem execDigchk_of_dl {s : State} {dl : Lanes Byte} (hdl : s.txn.dl = some dl) :
    execDigchk s = s.gate s.txn .digitRange (digitsOk dl) 13 := by
  rw [execDigchk, hdl, need_some]

theorem execOvfchk_of_s {s : State} {v : Vector (BitVec 16) 4} (hs : s.txn.s = some v) :
    execOvfchk s = s.gate s.txn .overflow (sumsOk v) 17 := by
  rw [execOvfchk, hs, need_some]

theorem execNarrow_of_s {s : State} {v : Vector (BitVec 16) 4} (hs : s.txn.s = some v) :
    execNarrow s = .next (s.setTxn ((s.txn.setB (narrowValue v)).goto (.run 18))) := by
  rw [execNarrow, hs, need_some, advance_eq]

theorem execPack_of_b {s : State} {b : Vector Byte 4} (hb : s.txn.b = some b) :
    execPack s = .next (s.setTxn (((s.txn.setRes (packValue b)).setOk true).goto .doneOk)) := by
  rw [execPack, hb, need_some]

/-! ## G1, G2 and `DESCSEL` -/

theorem pidLive_eq_true_iff (pid : Byte) : pidLive pid = true ↔ pid.toNat < 81 := decide_eq_true_iff

/-- The gate G1 passes on the PatternIDs below 81 (R68). -/
theorem hashOk_eq_true_iff (pid : Byte) : hashOk pid = true ↔ pid.toNat < 81 := pidLive_eq_true_iff pid

theorem hashOk_eq_false_iff (pid : Byte) : hashOk pid = false ↔ 81 ≤ pid.toNat := by
  rw [← Bool.not_eq_true, hashOk_eq_true_iff, not_lt]

/-- The entry of a live PatternID is the valid bitmap of its shape (R52). -/
theorem xbmrom_of_lt {pid : Byte} (h : pid.toNat < 81) : xbmrom pid = shapeBitmap (pidShape pid.toNat) :=
  if_pos ((pidLive_eq_true_iff pid).2 h)

/-- The entry of a live PatternID is the descriptor of its shape (R50). -/
theorem descrom_of_lt {pid : Byte} (h : pid.toNat < 81) : descrom pid = shapeDescriptor (pidShape pid.toNat) :=
  if_pos ((pidLive_eq_true_iff pid).2 h)

/-- The gate G2 compares the bitmap with the table's (R69). -/
theorem shapeOk_eq_true_iff (bm : BitVec 16) (pid : Byte) : shapeOk bm pid = true ↔ bm = xbmrom pid := beq_iff_eq

theorem shapeOk_eq_false_iff (bm : BitVec 16) (pid : Byte) : shapeOk bm pid = false ↔ bm ≠ xbmrom pid := by
  rw [← Bool.not_eq_true, shapeOk_eq_true_iff]

/-- Settles O15: the two branches of the gate G1. -/
theorem pidlookGate : Obligations.PidlookGate := by
  intro s hc hhc
  rw [exec_pidlook, execPidlook_of_hc hhc]
  constructor
  · intro hlive
    rw [(hashOk_eq_true_iff _).2 hlive, gate_pass, State.setTxn, Txn.setGate, Txn.setG1, Txn.setPid, Txn.goto]
  · intro hdead
    rw [(hashOk_eq_false_iff _).2 hdead, gate_fail, State.setTxn, reject_eq, Txn.setGate, Txn.setG1, Txn.setPid]

/-- `SHAPECONF` that passes (R69). -/
theorem execShapeconf_of_eq {s : State} {bm : BitVec 16} {pid : Byte} (hbm : s.txn.bm = some bm) (hpid : s.txn.pid = some pid)
    (heq : bm = xbmrom pid) :
    execShapeconf s = .next { s with txn := { s.txn with g2 := some true, stage := .run 7 } } := by
  rw [execShapeconf_of_bm_of_pid hbm hpid, (shapeOk_eq_true_iff _ _).2 heq, gate_pass, State.setTxn, Txn.setGate, Txn.setG2,
    Txn.goto]

/-- `SHAPECONF` that rejects (R69). -/
theorem execShapeconf_of_ne {s : State} {bm : BitVec 16} {pid : Byte} (hbm : s.txn.bm = some bm) (hpid : s.txn.pid = some pid)
    (hne : bm ≠ xbmrom pid) :
    execShapeconf s =
      .next { s with txn := { s.txn with g2 := some false, ok := some false, res := some 0, stage := .doneReject } } := by
  rw [execShapeconf_of_bm_of_pid hbm hpid, (shapeOk_eq_false_iff _ _).2 hne, gate_fail, State.setTxn, reject_eq, Txn.setGate,
    Txn.setG2]

/-- Settles O16: the two branches of the gate G2 on a live PatternID. -/
theorem shapeconfGate : Obligations.ShapeconfGate := by
  intro s bm pid hbm hpid hlive
  rw [exec_shapeconf, ← xbmrom_of_lt hlive]
  exact ⟨execShapeconf_of_eq hbm hpid, execShapeconf_of_ne hbm hpid⟩

/-- Settles O17. -/
theorem descselReads : Obligations.DescselReads := by
  intro s pid hpid hlive
  rw [exec_descsel, execDescsel_of_pid hpid, descrom_of_lt hlive, State.setTxn, Txn.setDesc, Txn.goto]

/-- Settles O18: each operation goes on, whatever the free value is. -/
theorem beyondDomainGoesOn : Obligations.BeyondDomainGoesOn := by
  intro s
  refine ⟨fun rawbm n hraw hlen _ => ⟨lenmaskValue rawbm n, ?_⟩, fun bm pid hbm hpid _ => ?_, fun pid hpid _ => ⟨descrom pid, ?_⟩⟩
  · rw [exec_lenmask, execLenmask_of_rawbm_of_len hraw hlen, State.setTxn, Txn.setBm, Txn.goto]
  · rw [exec_shapeconf]
    exact (em (bm = xbmrom pid)).imp (execShapeconf_of_eq hbm hpid) (execShapeconf_of_ne hbm hpid)
  · rw [exec_descsel, execDescsel_of_pid hpid, State.setTxn, Txn.setDesc, Txn.goto]

/-! ## G3 -/

/-- The role and the group of a lane fix it (R49). -/
theorem eq_hundredsLane_iff : ∀ (i : Fin 16) (g : Fin 4), i = hundredsLane g ↔ laneGroup i = g ∧ laneRole i = .hundreds := by
  decide

theorem eq_tensLane_iff : ∀ (i : Fin 16) (g : Fin 4), i = tensLane g ↔ laneGroup i = g ∧ laneRole i = .tens := by
  decide

/-- The lane of a group under the leading-zero check, by roles (R79). -/
theorem checkedLane_eq_some_iff (d : Descriptor) (g : Fin 4) (i : Fin 16) :
    checkedLane d g = some i ↔
      i = hundredsLane g ∧ d[hundredsLane g] ≠ .miss ∨
        i = tensLane g ∧ d[hundredsLane g] = .miss ∧ d[tensLane g] ≠ .miss := by
  change (if d[hundredsLane g] ≠ .miss then some (hundredsLane g)
    else if d[tensLane g] ≠ .miss then some (tensLane g) else none) = some i ↔ _
  split_ifs with hh ht
  · simp only [hh, ne_eq, not_false_eq_true, and_true, Option.some.injEq, false_and, and_false, or_false]
    exact eq_comm
  · rw [not_not] at hh
    simp only [hh, ht, ne_eq, not_true_eq_false, not_false_eq_true, and_true, Option.some.injEq, and_false, false_or]
    exact eq_comm
  · rw [not_not] at hh ht
    simp [hh, ht]

/-- A lane under the leading-zero check, by its role (R79). -/
theorem leadingLanes_eq_true_iff (d : Descriptor) (i : Fin 16) :
    (leadingLanes d)[i] = true ↔
      laneRole i = .hundreds ∧ d[i] ≠ .miss ∨
        laneRole i = .tens ∧ d[hundredsLane (laneGroup i)] = .miss ∧ d[i] ≠ .miss := by
  rw [Fin.getElem_fin, leadingLanes, Vector.getElem_ofFn, Fin.eta]
  cases laneRole i <;> simp

/-- The lanes of `LZMASK` are those that some group has under check. -/
theorem leadingLanes_iff_checkedLane (d : Descriptor) (i : Fin 16) :
    (leadingLanes d)[i] = true ↔ ∃ g, checkedLane d g = some i := by
  rw [leadingLanes_eq_true_iff]
  simp only [checkedLane_eq_some_iff]
  constructor
  · obtain ⟨g, hg⟩ : ∃ g, laneGroup i = g := ⟨_, rfl⟩
    rintro (⟨hrole, hd⟩ | ⟨hrole, hmiss, hd⟩)
    · obtain rfl := (eq_hundredsLane_iff i g).2 ⟨hg, hrole⟩
      exact ⟨g, .inl ⟨rfl, hd⟩⟩
    · obtain rfl := (eq_tensLane_iff i g).2 ⟨hg, hrole⟩
      exact ⟨g, .inr ⟨rfl, by simpa only [hg] using hmiss, hd⟩⟩
  · rintro ⟨g, ⟨rfl, hd⟩ | ⟨rfl, hmiss, hd⟩⟩
    · exact .inl ⟨(laneRole_hundredsLane g).1, hd⟩
    · exact .inr ⟨(laneRole_tensLane g).1, by simpa only [(laneRole_tensLane g).2] using hmiss, hd⟩

/-- The gate G3 passes when no lane under check holds "0" (R79). -/
theorem leadingOk_eq_true_iff (gl : Lanes Byte) (d : Descriptor) :
    leadingOk gl (leadingLanes d) = true ↔ ∀ g i, checkedLane d g = some i → gl[i] ≠ 0x30 := by
  rw [leadingOk, decide_eq_true_iff]
  simp only [leadingLanes_iff_checkedLane, Config.zero]
  exact ⟨fun h g i hi hz => h i ⟨⟨g, hi⟩, hz⟩, fun h i ⟨⟨g, hi⟩, hz⟩ => h g i hi hz⟩

/-- The gate G3 fails when a lane under check holds "0" (R79). -/
theorem leadingOk_eq_false_iff (gl : Lanes Byte) (d : Descriptor) :
    leadingOk gl (leadingLanes d) = false ↔ ∃ g i, checkedLane d g = some i ∧ gl[i] = 0x30 := by
  rw [← Bool.not_eq_true, leadingOk_eq_true_iff]
  push Not
  rfl

/-- Settles O20: the lanes under check, and the two branches of the gate G3. -/
theorem lzchkGate : Obligations.LzchkGate := by
  intro s gl d hgl hdesc
  refine ⟨leadingLanes d, leadingLanes_iff_checkedLane d, fun hpass => ?_, fun hfail => ?_⟩
  · rw [exec_lzchk, execLzchk_of_gl_of_desc hgl hdesc, (leadingOk_eq_true_iff gl d).2 hpass, gate_pass, State.setTxn,
      Txn.setGate, Txn.setG3, Txn.setLzmask, Txn.goto]
  · rw [exec_lzchk, execLzchk_of_gl_of_desc hgl hdesc, (leadingOk_eq_false_iff gl d).2 hfail, gate_fail, State.setTxn,
      reject_eq, Txn.setGate, Txn.setG3, Txn.setLzmask]

/-! ## The accumulator as a whole -/

theorem laneWeight_onesLane (g : Fin 4) : laneWeight (onesLane g) = 1 := by
  rw [laneWeight, (laneRole_onesLane g).1]

theorem laneWeight_tensLane (g : Fin 4) : laneWeight (tensLane g) = 10 := by
  rw [laneWeight, (laneRole_tensLane g).1]

theorem laneWeight_hundredsLane (g : Fin 4) : laneWeight (hundredsLane g) = 100 := by
  rw [laneWeight, (laneRole_hundredsLane g).1]

theorem laneWeight_spareLane (g : Fin 4) : laneWeight (spareLane g) = 0 := by
  rw [laneWeight, (laneRole_spareLane g).1]

/-- The four lanes that meet in a group's sum: ones and tens in one pair, hundreds and spare in the other (R87, R88). -/
theorem foldValue_pairaddValue_get (p : Lanes (BitVec 16)) (g : Fin 4) :
    (foldValue (pairaddValue p))[g] =
      (p[onesLane g] + p[tensLane g]) + (p[hundredsLane g] + p[spareLane g]) := by
  have hhundreds : 2 * (g.val + 4) = 8 + 2 * g.val := by omega
  have hspare : 8 + 2 * g.val + 1 = 9 + 2 * g.val := by omega
  simp only [Fin.getElem_fin, foldValue_get, pairaddValue_get, onesLane, tensLane, hundredsLane, spareLane, hhundreds, hspare]

/-- A group's sum for any digit lanes: 111 × 255 fits in 16 bits, so that nothing wraps (R90). -/
theorem foldValue_pairaddValue_wmulValue_toNat (dl : Lanes Byte) (g : Fin 4) :
    (foldValue (pairaddValue (wmulValue dl)))[g].toNat =
      dl[onesLane g].toNat + 10 * dl[tensLane g].toNat + 100 * dl[hundredsLane g].toNat := by
  rw [foldValue_pairaddValue_get]
  simp only [BitVec.toNat_add, wmulValue_toNat, laneWeight_onesLane, laneWeight_tensLane, laneWeight_hundredsLane,
    laneWeight_spareLane]
  have hones := dl[onesLane g].isLt
  have htens := dl[tensLane g].isLt
  have hhundreds := dl[hundredsLane g].isLt
  omega

/-- Settles O27: the three operations complete in turn, and the sums do not wrap. -/
theorem accumulatorSums : Obligations.AccumulatorSums := by
  intro s dl hdl
  exact ⟨_, _, _, _, (exec_wmul s).trans (execWmul_of_dl hdl), (exec_pairadd _).trans (execPairadd_of_p rfl),
    (exec_fold _).trans (execFold_of_ps rfl), rfl, foldValue_pairaddValue_wmulValue_toNat dl⟩

/-! ## The packer -/

/-- A byte of `B` as a number (R93). -/
theorem narrowValue_toNat (v : Vector (BitVec 16) 4) (g : Fin 4) : (narrowValue v)[g].toNat = min v[g].toNat 255 := by
  rw [Fin.getElem_fin, narrowValue_get, Fin.getElem_fin, Config.octetMax]
  split
  · rw [min_eq_right (by omega)]; rfl
  · rw [BitVec.toNat_setWidth, min_eq_left (by omega)]; omega

/-- Settles O29. -/
theorem narrowSaturates : Obligations.NarrowSaturates := by
  intro s v hs
  refine ⟨narrowValue v, narrowValue_toNat v, ?_⟩
  rw [exec_narrow, execNarrow_of_s hs, State.setTxn, Txn.setB, Txn.goto]

/-- `RES` as a number: group 0 in the least-significant byte (R94). -/
theorem packValue_toNat (b : Vector Byte 4) :
    (packValue b).toNat = b[0].toNat + 256 * b[1].toNat + 65536 * b[2].toNat + 16777216 * b[3].toNat := by
  have h0 := b[0].isLt
  have h1 := b[1].isLt
  have h2 := b[2].isLt
  simp only [packValue, BitVec.toNat_append]
  rw [← Nat.shiftLeft_add_eq_or_of_lt h0, ← Nat.shiftLeft_add_eq_or_of_lt h1, ← Nat.shiftLeft_add_eq_or_of_lt h2]
  simp only [Nat.shiftLeft_eq]
  omega

/-- Byte g of `RES` is `B[g]` (R94). -/
theorem packValue_extractLsb' (b : Vector Byte 4) (g : Fin 4) : (packValue b).extractLsb' (8 * g.val) 8 = b[g] := by
  have h0 := b[0].isLt
  have h1 := b[1].isLt
  have h2 := b[2].isLt
  have h3 := b[3].isLt
  apply BitVec.eq_of_toNat_eq
  rw [BitVec.extractLsb'_toNat, packValue_toNat, Nat.shiftRight_eq_div_pow]
  fin_cases g <;> simp <;> omega

/-- Settles O30: the concatenation as a number and byte by byte. -/
theorem packConcatenates : Obligations.PackConcatenates := by
  intro s b hb
  refine ⟨packValue b, packValue_toNat b, packValue_extractLsb' b, ?_⟩
  rw [exec_pack, execPack_of_b hb, State.setTxn, Txn.setRes, Txn.setOk, Txn.goto]

/-! ## The `SHAPE` rows -/

/-- The hash code of the dispatcher is that of the closed form (R45, R97). -/
theorem hashCode_hashProduct (bm : BitVec 16) : hashCode (hashProduct bm) = refHash bm := by
  apply BitVec.eq_of_toNat_eq
  rw [hashCode_toNat, hashProduct_toNat, refHash, BitVec.toNat_ofNat]
  rfl

/-- Settles O38: the 81 rows have one meaning. -/
theorem shapeRowSelects : Obligations.ShapeRowSelects := by
  intro i sh s hsh
  rw [exec_of_shape? s hsh, State.selectShape, hashCode_hashProduct]
  simp only [advance_eq, State.setTxn, Txn.setProd, Txn.setHc, Txn.setPid, Txn.setG1, Txn.setG2, Txn.setDesc, Txn.goto]
  rfl

/-! ## Operands without a value -/

/-- Settles O31: the read that is done first stops the operation. -/
theorem unwrittenOperandStops : Obligations.UnwrittenOperandStops := by
  intro s
  refine ⟨fun h => ?_, fun h => ⟨?_, ?_⟩, fun h => ?_, fun h => ?_, fun x hx h => ?_, fun h => ⟨?_, ?_⟩, fun h => ?_,
    fun x hx h => ?_, fun h => ?_, fun x hx h => ?_, fun h => ⟨?_, ?_⟩, fun x hx h => ⟨?_, ?_⟩, fun h => ?_, fun h => ⟨?_, ?_⟩,
    fun h => ?_, fun h => ?_, fun h => ⟨?_, ?_⟩, fun h => ?_⟩
  · rw [exec_lenchk, execLenchk, h, need_none]
  · rw [exec_cmpsep, execCmpsep, h, need_none]
  · rw [exec_gather, execGather, h, need_none]
  · rw [exec_bitmask, execBitmask, h, need_none]
  · rw [exec_lenmask, execLenmask, h, need_none]
  · rw [exec_lenmask, execLenmask, hx, need_some, h, need_none]
  · rw [exec_hash, execHash, h, need_none]
  · rw [exec_shapeconf, execShapeconf, h, need_none]
  · rw [exec_pidlook, execPidlook, h, need_none]
  · rw [exec_shapeconf, execShapeconf, hx, need_some, h, need_none]
  · rw [exec_descsel, execDescsel, h, need_none]
  · rw [exec_gather, execGather, hx, need_some, h, need_none]
  · rw [exec_lzchk, execLzchk, h, need_none]
  · rw [exec_canon, execCanon, h, need_none]
  · rw [exec_lzchk, execLzchk, hx, need_some, h, need_none]
  · rw [exec_canon, execCanon, hx, need_some, h, need_none]
  · rw [exec_subzero, execSubzero, h, need_none]
  · rw [exec_digchk, execDigchk, h, need_none]
  · rw [exec_wmul, execWmul, h, need_none]
  · rw [exec_pairadd, execPairadd, h, need_none]
  · rw [exec_fold, execFold, h, need_none]
  · rw [exec_ovfchk, execOvfchk, h, need_none]
  · rw [exec_narrow, execNarrow, h, need_none]
  · rw [exec_pack, execPack, h, need_none]

end Sys2Proof.Machine
end

section
/-!
PROOFS of the family `other`, the dispatcher as a whole: the four operations from `HASH` to `DESCSEL` leave what the `SHAPE` rows leave,
for every bitmap (R55, R57, R67 to R70).
-/

namespace Sys2Proof.Machine

open Sys2Proof

/-! ## Sequences of operations -/

/-- The chain goes on after an operation that does not reject (R97). -/
theorem runOps_cons_of_next {op : State → Out} {s s' : State} (ops : List (State → Out)) (hop : op s = .next s')
    (hstage : s'.txn.stage ≠ .doneReject) : runOps (op :: ops) s = runOps ops s' := by
  simp only [runOps, hop, if_neg hstage]

/-- An operation at the end of a sequence has the last word. -/
theorem runOps_singleton {op : State → Out} {s s' : State} (hop : op s = .next s') : runOps [op] s = .next s' := by
  simp only [runOps, hop, ite_self]

/-! ## The tables on the bitmap of a legal shape -/

section LegalShape
variable {sh : Shape} (h : sh.wellFormed = true)
include h

/-- `PIDROM` reads back the PatternID of a legal shape as a number (R47). -/
theorem pidrom_refHash_shapeBitmap_toNat : (pidrom (refHash (shapeBitmap sh))).toNat = shapePid sh := by
  have hlt : shapePid sh < 81 := shapePid_lt h
  rw [pidrom_refHash_shapeBitmap h, BitVec.toNat_ofNat, Nat.mod_eq_of_lt (by omega)]

theorem pidrom_refHash_shapeBitmap_lt : (pidrom (refHash (shapeBitmap sh))).toNat < 81 :=
  pidrom_refHash_shapeBitmap_toNat h ▸ shapePid_lt h

/-- The bitmap of a legal shape is confirmed (R52). -/
theorem xbmrom_pidrom_shapeBitmap : xbmrom (pidrom (refHash (shapeBitmap sh))) = shapeBitmap sh := by
  rw [xbmrom_of_lt (pidrom_refHash_shapeBitmap_lt h), pidrom_refHash_shapeBitmap_toNat h, pidShape_shapePid h]

/-- The bitmap of a legal shape selects the shape's descriptor (R50). -/
theorem descrom_pidrom_shapeBitmap : descrom (pidrom (refHash (shapeBitmap sh))) = shapeDescriptor sh := by
  rw [descrom_of_lt (pidrom_refHash_shapeBitmap_lt h), pidrom_refHash_shapeBitmap_toNat h, pidShape_shapePid h]

end LegalShape

/-- A bitmap that is confirmed at a live PatternID is that of a legal shape (R52, R55). -/
theorem exists_shape_of_eq_xbmrom {bm : BitVec 16} {pid : Byte} (hlive : pid.toNat < 81) (heq : bm = xbmrom pid) :
    ∃ sh : Shape, sh.wellFormed = true ∧ bm = shapeBitmap sh :=
  ⟨pidShape pid.toNat, pidShape_wellFormed hlive, heq.trans (xbmrom_of_lt hlive)⟩

/-! ## The four operations in turn -/

/-- `HASH`, `PIDLOOK`, `SHAPECONF` and `DESCSEL` (R67 to R70). -/
def dispatcherOps : List (State → Out) := [execHash, execPidlook, execShapeconf, execDescsel]

/-- The transaction when the hash of `bm` has been looked up. -/
def Txn.lookedUp (t : Txn) (bm : BitVec 16) : Txn :=
  ((t.setProd (hashProduct bm)).setHc (hashCode (hashProduct bm))).setPid (pidrom (hashCode (hashProduct bm)))

section Dispatcher
variable {s : State} {bm : BitVec 16} (hbm : s.txn.bm = some bm)
include hbm

/-- On a bitmap whose hash code has no live PatternID the dispatcher rejects by G1. -/
theorem dispatcher_of_dead (hdead : 81 ≤ (pidrom (hashCode (hashProduct bm))).toNat) :
    runOps dispatcherOps s = .next (s.setTxn ((s.txn.lookedUp bm).reject .shapeHash)) := by
  rw [dispatcherOps, runOps_cons_of_next _ (execHash_of_bm hbm) nofun]
  refine runOps_cons_of_reject _ ((execPidlook_of_hc rfl).trans ?_) (reject_stage _ _)
  rw [(hashOk_eq_false_iff _).2 hdead]
  rfl

/-- After a look-up that passes G1 the dispatcher goes on with `SHAPECONF`. -/
theorem dispatcher_of_live (hlive : (pidrom (hashCode (hashProduct bm))).toNat < 81) :
    runOps dispatcherOps s =
      runOps [execShapeconf, execDescsel] (s.setTxn (((s.txn.lookedUp bm).setG1 true).goto (.run 6))) := by
  rw [dispatcherOps, runOps_cons_of_next _ (execHash_of_bm hbm) nofun]
  refine runOps_cons_of_next _ ((execPidlook_of_hc rfl).trans ?_) nofun
  rw [(hashOk_eq_true_iff _).2 hlive]
  rfl

/-- On a bitmap of another shape's hash code the dispatcher rejects by G2. -/
theorem dispatcher_of_ne (hlive : (pidrom (hashCode (hashProduct bm))).toNat < 81)
    (hne : bm ≠ xbmrom (pidrom (hashCode (hashProduct bm)))) :
    runOps dispatcherOps s = .next (s.setTxn (((s.txn.lookedUp bm).setG1 true).reject .shapeConfirm)) := by
  have hkept : (s.setTxn (((s.txn.lookedUp bm).setG1 true).goto (.run 6))).txn.bm = some bm := hbm
  rw [dispatcher_of_live hbm hlive]
  refine runOps_cons_of_reject _ ((execShapeconf_of_bm_of_pid hkept rfl).trans ?_) (reject_stage _ _)
  rw [(shapeOk_eq_false_iff _ _).2 hne]
  rfl

/-- On the bitmap of its PatternID the dispatcher selects the descriptor. -/
theorem dispatcher_of_eq (hlive : (pidrom (hashCode (hashProduct bm))).toNat < 81)
    (heq : bm = xbmrom (pidrom (hashCode (hashProduct bm)))) :
    runOps dispatcherOps s =
      .next (s.setTxn (((((s.txn.lookedUp bm).setG1 true).setG2 true).setDesc
        (descrom (pidrom (hashCode (hashProduct bm))))).goto (.run 8))) := by
  have hkept : (s.setTxn (((s.txn.lookedUp bm).setG1 true).goto (.run 6))).txn.bm = some bm := hbm
  rw [dispatcher_of_live hbm hlive, runOps_cons_of_next _ (execShapeconf_of_eq hkept rfl heq) nofun]
  exact runOps_singleton (execDescsel_of_pid rfl)

/-- On the bitmap of a legal shape the dispatcher does what the shape's row does. -/
theorem dispatcher_of_shape {sh : Shape} (hsh : sh.wellFormed = true) (heq : bm = shapeBitmap sh) :
    runOps dispatcherOps s = s.selectShape sh := by
  subst heq
  have hhash := hashCode_hashProduct (shapeBitmap sh)
  rw [dispatcher_of_eq hbm (by rw [hhash]; exact pidrom_refHash_shapeBitmap_lt hsh)
    (by rw [hhash, xbmrom_pidrom_shapeBitmap hsh]), Txn.lookedUp, State.selectShape, hhash, descrom_pidrom_shapeBitmap hsh,
    pidrom_refHash_shapeBitmap hsh]
  rfl

/-- On any other bitmap the dispatcher rejects, as the decoder does (R55). -/
theorem dispatcher_of_no_shape (hno : ∀ sh : Shape, sh.wellFormed = true → bm ≠ shapeBitmap sh) :
    runOps dispatcherOps s = s.rejectBitmap bm := by
  obtain hlive | hdead := lt_or_ge (pidrom (hashCode (hashProduct bm))).toNat 81
  · have hne : bm ≠ xbmrom (pidrom (hashCode (hashProduct bm))) := fun heq =>
      have ⟨sh, hsh, hbm⟩ := exists_shape_of_eq_xbmrom hlive heq
      hno sh hsh hbm
    rw [dispatcher_of_ne hbm hlive hne]
    exact (if_pos ((hashOk_eq_true_iff _).2 hlive)).symm
  · rw [dispatcher_of_dead hbm hdead]
    exact (if_neg (by rw [(hashOk_eq_false_iff _).2 hdead]; decide)).symm

/-- What a bitmap decodes to is what the dispatcher does. -/
theorem exec_eq_dispatcher {i : Instr} (h : decode (.bitmap bm) = .ok i) : exec i s = runOps dispatcherOps s := by
  obtain ⟨sh, hsh, hshape, heq⟩ := shape_of_decodeBitmap h
  rw [exec_of_shape? s hshape, dispatcher_of_shape hbm hsh heq]

/-- The rejection of a bitmap that does not decode is what the dispatcher does. -/
theorem undecoded_eq_dispatcher {e : DecodeReject} (h : decode (.bitmap bm) = .error e) :
    undecoded e s = runOps dispatcherOps s := by
  obtain ⟨rfl, hno⟩ := decodeBitmap_error h
  rw [dispatcher_of_no_shape hbm hno, undecoded]

end Dispatcher

/-- Settles O39: a bitmap that decodes, and one that does not. -/
theorem rowsAgreeWithHash : Obligations.RowsAgreeWithHash := by
  intro s bm hbm
  split
  next i h => exact exec_eq_dispatcher hbm h
  next e h => exact undecoded_eq_dispatcher hbm h

end Sys2Proof.Machine
end

section
/-!
PROOFS of the family `other`, the closed form of R97: each value that an operation computes from the closed form's operands is the
closed form's, each gate's test is the closed form's, and the first gate that fails says how many operations run.
-/

namespace Sys2Proof.Machine

open Sys2Proof

/-! ## The bitmap -/

/-- `RAWBM` in the closed form. -/
theorem bitmaskValue_cmpsepValue (w : Window) : bitmaskValue (cmpsepValue w) = BitVec.ofNat 16 (refRaw w) := by
  have hsum : refRaw w = (bitmaskValue (cmpsepValue w)).toNat := by
    rw [bitmaskValue_toNat]
    simp only [cmpsepValue_eq_true_iff]
    rfl
  rw [hsum, BitVec.ofNat_toNat, BitVec.setWidth_eq]

/-- The bits of `BM`: the separators below the length, and the guard at the length (R43). -/
def bitmapBit (w : Window) (len : Nat) (i : Fin 16) : Bool :=
  if i.val < len then decide (w[i] = 0x2E) else decide (i.val = len)

/-- The closed form's sum is the number with those bits. -/
theorem refBitmap_eq_bitsValue (w : Window) {len : Nat} (h : len ≤ 15) :
    refBitmap w len = BitVec.ofNat 16 (bitsValue (List.ofFn (bitmapBit w len))) := by
  have hguard : 2 ^ len = ∑ i : Fin 16, if i = ⟨len, by omega⟩ then 2 ^ i.val else 0 := by
    rw [Finset.sum_ite_eq' Finset.univ (⟨len, by omega⟩ : Fin 16), if_pos (Finset.mem_univ _)]
  rw [refBitmap, bitsValue_ofFn, hguard, ← Finset.sum_add_distrib]
  refine congrArg (BitVec.ofNat 16) (Finset.sum_congr rfl fun i _ => ?_)
  obtain hlt | heq | hgt := lt_trichotomy i.val len
  · simp [bitmapBit, Fin.ext_iff, hlt, hlt.ne]
  · simp [bitmapBit, Fin.ext_iff, heq]
  · simp [bitmapBit, Fin.ext_iff, hgt.not_gt, hgt.ne']

/-- A bit of `BM` in the closed form. -/
theorem refBitmap_getLsbD (w : Window) {len : Nat} (h : len ≤ 15) (i : Fin 16) :
    (refBitmap w len).getLsbD i.val = bitmapBit w len i := by
  have hi : i.val < (List.ofFn (bitmapBit w len)).length := by rw [List.length_ofFn]; exact i.isLt
  rw [refBitmap_eq_bitsValue w h, BitVec.getLsbD_ofNat, bitsValue_testBit, decide_eq_true i.isLt, Bool.true_and,
    List.getD_eq_getElem _ _ hi, List.getElem_ofFn]

/-- `BM` in the closed form, on the lengths that G0 lets pass. -/
theorem lenmaskValue_refRaw (w : Window) {len : Nat} (h : len ≤ 15) :
    lenmaskValue (BitVec.ofNat 16 (refRaw w)) len = refBitmap w len := by
  rw [← bitmaskValue_cmpsepValue]
  refine BitVec.eq_of_getLsbD_eq fun i hi => ?_
  rw [lenmaskValue_getLsbD _ h hi, refBitmap_getLsbD w h ⟨i, hi⟩, bitmaskValue_getLsbD _ _ hi, cmpsepValue_get]
  rfl

/-! ## The lanes -/

/-- `GL` in the closed form. -/
theorem gatherValue_refDesc (w : Window) (len : Nat) : gatherValue w (refDesc w len) = refGl w len := rfl

/-- `CL` in the closed form. -/
theorem canonValue_refGl (w : Window) (len : Nat) : canonValue (refGl w len) (refDesc w len) = refCl w len := by
  rw [← gatherValue_refDesc]
  unfold canonValue refCl
  congr 1
  funext i
  cases hd : (refDesc w len)[i] with
  | index k => exact gatherValue_of_index w hd
  | miss => rfl

/-- To subtract "0" from a byte is to add 256 - 0x30, modulo 256 (R82). -/
theorem byte_sub_zero (b : Byte) : b - Config.zero = BitVec.ofNat 8 (b.toNat + 256 - 0x30) := by
  apply BitVec.eq_of_toNat_eq
  have hzero : Config.zero.toNat = 0x30 := rfl
  rw [BitVec.toNat_sub, BitVec.toNat_ofNat, hzero]
  omega

/-- `DL` in the closed form. -/
theorem subzeroValue_refCl (w : Window) (len : Nat) : subzeroValue (refCl w len) = refDl w len := by
  refine Vector.ext fun i hi => ?_
  rw [subzeroValue_get, refCl, refDl, Vector.getElem_ofFn, Vector.getElem_ofFn]
  cases (refDesc w len)[i] with
  | index k => exact byte_sub_zero _
  | miss => exact (by decide : (0x30 : Byte) - Config.zero = 0)

/-- `LZMASK` in the closed form. -/
theorem leadingLanes_eq (d : Descriptor) : leadingLanes d = Vector.ofFn fun i => decide (∃ g, checkedLane d g = some i) := by
  refine Vector.ext fun i hi => ?_
  rw [Vector.getElem_ofFn, Bool.eq_iff_iff, decide_eq_true_iff]
  exact leadingLanes_iff_checkedLane d ⟨i, hi⟩

/-! ## The sums -/

/-- `PS` in the closed form. -/
theorem pairaddValue_wmulValue (dl : Lanes Byte) :
    pairaddValue (wmulValue dl) = Vector.ofFn fun j : Fin 8 =>
      BitVec.ofNat 16 (dl[2 * j.val].toNat * laneWeight ⟨2 * j.val, by omega⟩ +
        dl[2 * j.val + 1].toNat * laneWeight ⟨2 * j.val + 1, by omega⟩) := by
  refine Vector.ext fun j hj => ?_
  rw [pairaddValue_get, wmulValue_get, wmulValue_get, Vector.getElem_ofFn, BitVec.ofNat_add]

/-- A group's sum is the closed form's as a natural number (R90). -/
theorem foldValue_refDl_toNat (w : Window) (len : Nat) (g : Fin 4) :
    (foldValue (pairaddValue (wmulValue (refDl w len))))[g].toNat = refSum w len g :=
  foldValue_pairaddValue_wmulValue_toNat _ g

/-- `S` in the closed form. -/
theorem foldValue_refDl (w : Window) (len : Nat) :
    foldValue (pairaddValue (wmulValue (refDl w len))) = Vector.ofFn fun g => BitVec.ofNat 16 (refSum w len g) := by
  refine Vector.ext fun g hg => ?_
  rw [Vector.getElem_ofFn, ← foldValue_refDl_toNat, BitVec.ofNat_toNat, BitVec.setWidth_eq]
  rfl

/-- `B` in the closed form, when G5 passes: nothing is saturated (R93). -/
theorem narrowValue_refSum {w : Window} {len : Nat} (h : ∀ g, refSum w len g ≤ 255) :
    narrowValue (foldValue (pairaddValue (wmulValue (refDl w len)))) =
      Vector.ofFn fun g => BitVec.ofNat 8 (refSum w len g) := by
  refine Vector.ext fun g hg => BitVec.eq_of_toNat_eq ?_
  have hle := h ⟨g, hg⟩
  refine (narrowValue_toNat _ ⟨g, hg⟩).trans ?_
  rw [foldValue_refDl_toNat, Vector.getElem_ofFn, BitVec.toNat_ofNat]
  omega

/-- `RES` in the closed form, when G5 passes (R94). -/
theorem packValue_refSum {w : Window} {len : Nat} (h : ∀ g, refSum w len g ≤ 255) :
    packValue (Vector.ofFn fun g => BitVec.ofNat 8 (refSum w len g)) = refResult w len := by
  have h0 := h 0
  have h1 := h 1
  have h2 := h 2
  have h3 := h 3
  apply BitVec.eq_of_toNat_eq
  rw [packValue_toNat, refResult, resultWord, BitVec.toNat_ofNat]
  simp only [Vector.getElem_ofFn, BitVec.toNat_ofNat, Fin.mk_zero, Fin.mk_one, Fin.reduceFinMk]
  omega

/-! ## The gates -/

theorem refGate_len (w : Window) (len : Nat) : lengthOk len = refGate w len .len := rfl

theorem refGate_shapeHash (w : Window) (len : Nat) : hashOk (refPid w len) = refGate w len .shapeHash := rfl

theorem refGate_shapeConfirm (w : Window) (len : Nat) :
    shapeOk (refBitmap w len) (refPid w len) = refGate w len .shapeConfirm := rfl

theorem refGate_leadingZero (w : Window) (len : Nat) :
    leadingOk (refGl w len) (leadingLanes (refDesc w len)) = refGate w len .leadingZero := by
  rw [Bool.eq_iff_iff, leadingOk_eq_true_iff, refGate, decide_eq_true_iff]

theorem refGate_digitRange (w : Window) (len : Nat) : digitsOk (refDl w len) = refGate w len .digitRange := rfl

theorem refGate_overflow (w : Window) (len : Nat) :
    sumsOk (foldValue (pairaddValue (wmulValue (refDl w len)))) = refGate w len .overflow := by
  rw [Bool.eq_iff_iff, sumsOk_eq_true_iff, refGate, decide_eq_true_iff]
  simp only [foldValue_refDl_toNat]

/-! The gates of the closed form as propositions. -/

theorem refGate_len_iff (w : Window) (len : Nat) : refGate w len .len = true ↔ len ≤ 15 := decide_eq_true_iff

theorem refGate_shapeHash_iff (w : Window) (len : Nat) : refGate w len .shapeHash = true ↔ (refPid w len).toNat < 81 :=
  decide_eq_true_iff

theorem refGate_shapeConfirm_iff (w : Window) (len : Nat) :
    refGate w len .shapeConfirm = true ↔ refBitmap w len = xbmrom (refPid w len) := beq_iff_eq

theorem refGate_leadingZero_iff (w : Window) (len : Nat) :
    refGate w len .leadingZero = true ↔ ∀ g i, checkedLane (refDesc w len) g = some i → (refGl w len)[i] ≠ 0x30 := by
  rw [refGate, decide_eq_true_iff]

theorem refGate_digitRange_iff (w : Window) (len : Nat) :
    refGate w len .digitRange = true ↔ ∀ i : Fin 16, (refDl w len)[i].toNat ≤ 9 := by
  rw [refGate, decide_eq_true_iff]

theorem refGate_overflow_iff (w : Window) (len : Nat) :
    refGate w len .overflow = true ↔ ∀ g, refSum w len g ≤ 255 := by
  rw [refGate, decide_eq_true_iff]

/-! ## The first gate that fails -/

/-- The causes in the order of the chain (R114). -/
def causes : List Cause := [.len, .shapeHash, .shapeConfirm, .leadingZero, .digitRange, .overflow]

theorem mem_causes (c : Cause) : c ∈ causes := by
  cases c <;> decide

theorem gateOrdinal_pairwise_causes : causes.Pairwise fun c c' => gateOrdinal c < gateOrdinal c' := by
  decide

theorem gateOrdinal_inj {c c' : Cause} (h : gateOrdinal c = gateOrdinal c') : c = c' := by
  revert h
  cases c <;> cases c' <;> decide

theorem refCause_eq_none_iff (w : Window) (len : Nat) : refCause w len = none ↔ ∀ c, refGate w len c = true := by
  change causes.find? _ = none ↔ _
  simp [mem_causes]

/-- The cause is a gate that fails, and every earlier gate passes (R114). -/
theorem refCause_eq_some {w : Window} {len : Nat} {c : Cause} (h : refCause w len = some c) :
    refGate w len c = false ∧ ∀ c', gateOrdinal c' < gateOrdinal c → refGate w len c' = true := by
  obtain ⟨hfail, before, after, hcauses, hpass⟩ := List.find?_eq_some_iff_append.1 h
  refine ⟨by simpa using hfail, fun c' hlt => ?_⟩
  have hmem : c' ∈ before ++ c :: after := hcauses ▸ mem_causes c'
  have hsorted : (before ++ c :: after).Pairwise fun c c' => gateOrdinal c < gateOrdinal c' :=
    hcauses ▸ gateOrdinal_pairwise_causes
  obtain hbefore | hafter := List.mem_append.1 hmem
  · simpa using hpass c' hbefore
  · obtain rfl | hafter := List.mem_cons.1 hafter
    · exact absurd hlt (lt_irrefl _)
    · exact absurd hlt (List.rel_of_pairwise_cons (List.pairwise_append.1 hsorted).2.1 hafter).not_gt

theorem refStop_of_none {w : Window} {len : Nat} (h : refCause w len = none) : refStop w len = 19 := by
  rw [refStop, h]

theorem refStop_of_some {w : Window} {len : Nat} {c : Cause} (h : refCause w len = some c) :
    refStop w len = gateOrdinal c + 1 := by
  rw [refStop, h]

theorem gateOrdinal_le (c : Cause) : gateOrdinal c ≤ 16 := by
  cases c <;> decide

/-- A transaction runs at least `LENCHK`, and at most all 19 operations (R97, R98). -/
theorem refStop_pos_le (w : Window) (len : Nat) : 0 < refStop w len ∧ refStop w len ≤ 19 := by
  cases h : refCause w len with
  | none => rw [refStop_of_none h]; decide
  | some c =>
    have := gateOrdinal_le c
    rw [refStop_of_some h]
    omega

section Progress
variable {w : Window} {len n : Nat} {c : Cause}

/-- A gate that the transaction has left behind has passed. -/
theorem refGate_of_lt_refStop (h : gateOrdinal c + 1 < refStop w len) : refGate w len c = true := by
  cases hcause : refCause w len with
  | none => exact (refCause_eq_none_iff w len).1 hcause c
  | some c' =>
    rw [refStop_of_some hcause] at h
    exact (refCause_eq_some hcause).2 c (by omega)

/-- The transaction goes on after an operation that is no gate and is not the last. -/
theorem succ_lt_refStop (h : n < refStop w len) (hlast : n ≠ 18) (hgate : ∀ c ∈ causes, n ≠ gateOrdinal c) :
    n + 1 < refStop w len := by
  cases hcause : refCause w len with
  | none => rw [refStop_of_none hcause] at *; omega
  | some c =>
    have := hgate c (mem_causes c)
    rw [refStop_of_some hcause] at *
    omega

/-- The transaction goes on after a gate that passes. -/
theorem succ_lt_refStop_of_pass (h : gateOrdinal c < refStop w len) (hpass : refGate w len c = true) :
    gateOrdinal c + 1 < refStop w len := by
  cases hcause : refCause w len with
  | none =>
    have := gateOrdinal_le c
    rw [refStop_of_none hcause]
    omega
  | some c' =>
    have hne : gateOrdinal c ≠ gateOrdinal c' := fun heq => by
      rw [gateOrdinal_inj heq, (refCause_eq_some hcause).1] at hpass
      cases hpass
    rw [refStop_of_some hcause] at *
    omega

/-- A gate that is reached and fails is the first that does. -/
theorem refCause_of_fail (h : gateOrdinal c < refStop w len) (hfail : refGate w len c = false) : refCause w len = some c := by
  cases hcause : refCause w len with
  | none => rw [(refCause_eq_none_iff w len).1 hcause c] at hfail; cases hfail
  | some c' =>
    rw [refStop_of_some hcause] at h
    have hle : ¬gateOrdinal c < gateOrdinal c' := fun hlt => by
      rw [(refCause_eq_some hcause).2 c hlt] at hfail
      cases hfail
    rw [gateOrdinal_inj (by omega : gateOrdinal c' = gateOrdinal c)]

/-- A transaction that reaches `PACK` has passed every gate. -/
theorem refCause_of_pack (h : 18 < refStop w len) : refCause w len = none := by
  cases hcause : refCause w len with
  | none => rfl
  | some c =>
    have := gateOrdinal_le c
    rw [refStop_of_some hcause] at h
    omega

end Progress

end Sys2Proof.Machine
end

section
/-!
PROOFS of the family `other`, the chain: the operation of ordinal n takes the closed form's transaction after n operations to the one
after n + 1 (R97), and so does a sequence of operations, up to the first gate that fails.
-/

namespace Sys2Proof.Machine

open Sys2Proof

@[simp] theorem State.setTxn_setTxn (s : State) (t u : Txn) : (s.setTxn t).setTxn u = s.setTxn u := rfl

theorem State.setTxn_self (s : State) : s.setTxn s.txn = s := rfl

/-! ## The closed form's transaction in progress and at its end -/

/-- The closed form's values after `n` operations, in a transaction that goes on. -/
def progressTxn (w : Window) (len n : Nat) : Txn :=
  { refTxn w len n with stage := .run (Fin.ofNat 19 n), res := none, ok := none }

/-- The closed form's values after `n` operations, in a transaction that has been rejected. -/
def rejectedTxn (w : Window) (len n : Nat) : Txn :=
  { refTxn w len n with stage := .doneReject, res := some 0, ok := some false }

section Transaction
variable {w : Window} {len n : Nat}

theorem refTxn_of_lt (h : n < refStop w len) : refTxn w len n = progressTxn w len n := by
  simp only [progressTxn, refTxn, if_pos h]

theorem refTxn_of_cause {c : Cause} (h : refCause w len = some c) :
    refTxn w len (gateOrdinal c + 1) = rejectedTxn w len (gateOrdinal c + 1) := by
  have hend : ¬gateOrdinal c + 1 < refStop w len := by rw [refStop_of_some h]; exact lt_irrefl _
  simp [rejectedTxn, refTxn, hend, h]

theorem afterOp_of_lt {α : Type} {ord : Nat} (v : α) (h : ord < n) : afterOp n ord v = some v := if_pos h

theorem afterOp_of_le {α : Type} {ord : Nat} (v : α) (h : n ≤ ord) : afterOp n ord v = none := if_neg (not_lt.2 h)

/-- A transaction that has just been presented has the closed form's values after no operation. -/
theorem fresh_eq_refTxn (w : Window) (len : Nat) : Txn.fresh w len = refTxn w len 0 := by
  rw [refTxn_of_lt (refStop_pos_le w len).1]
  rfl

/-! ## The gates -/

/-- What the gate of cause `c` is applied to: the transaction before it, with what its operation writes before the test. -/
def gateTxn (w : Window) (len : Nat) (c : Cause) : Txn :=
  { progressTxn w len (gateOrdinal c) with
    pid := (refTxn w len (gateOrdinal c + 1)).pid
    lzmask := (refTxn w len (gateOrdinal c + 1)).lzmask }

/-- A gate that passes leaves the closed form's transaction after it. -/
theorem gateTxn_pass {c : Cause} (h : refGate w len c = true) :
    ((gateTxn w len c).setGate c true).goto (.run (Fin.ofNat 19 (gateOrdinal c + 1))) =
      progressTxn w len (gateOrdinal c + 1) := by
  cases c <;>
    simp [gateTxn, gateOrdinal, progressTxn, refTxn, afterOp, Txn.setGate, Txn.setG0, Txn.setG1, Txn.setG2, Txn.setG3, Txn.setG4,
      Txn.setG5, Txn.goto, h]

/-- A gate that fails leaves the closed form's transaction, rejected after it. -/
theorem gateTxn_fail {c : Cause} (h : refGate w len c = false) :
    (gateTxn w len c).reject c = rejectedTxn w len (gateOrdinal c + 1) := by
  rw [reject_eq]
  cases c <;>
    simp [gateTxn, gateOrdinal, progressTxn, rejectedTxn, refTxn, afterOp, Txn.setGate, Txn.setG0, Txn.setG1, Txn.setG2, Txn.setG3,
      Txn.setG4, Txn.setG5, h]

/-- A gate takes the closed form's transaction on by one operation, whether it passes or fails. -/
theorem gate_refTxn (s : State) {c : Cause} {t : Txn} {pass : Bool} {o : Fin 19} (h : gateOrdinal c < refStop w len)
    (htxn : t = gateTxn w len c) (hpass : pass = refGate w len c) (ho : o = Fin.ofNat 19 (gateOrdinal c + 1)) :
    s.gate t c pass o = .next (s.setTxn (refTxn w len (gateOrdinal c + 1))) := by
  subst htxn hpass ho
  cases hgate : refGate w len c with
  | true => rw [gate_pass, gateTxn_pass hgate, refTxn_of_lt (succ_lt_refStop_of_pass h hgate)]
  | false => rw [gate_fail, gateTxn_fail hgate, refTxn_of_cause (refCause_of_fail h hgate)]

end Transaction

/-! ## The operations, one equation each -/

section Operations
variable {w : Window} {len : Nat} (s : State)

theorem execLenchk_refTxn (h : 0 < refStop w len) :
    execLenchk (s.setTxn (refTxn w len 0)) = .next (s.setTxn (refTxn w len 1)) := by
  rw [refTxn_of_lt h]
  exact (execLenchk_of_len rfl).trans (gate_refTxn (c := .len) s h rfl rfl rfl)

theorem execCmpsep_refTxn (h : 1 < refStop w len) :
    execCmpsep (s.setTxn (refTxn w len 1)) = .next (s.setTxn (refTxn w len 2)) := by
  rw [refTxn_of_lt h, refTxn_of_lt (succ_lt_refStop h (by decide) (by decide))]
  exact execCmpsep_of_w rfl

theorem execBitmask_refTxn (h : 2 < refStop w len) :
    execBitmask (s.setTxn (refTxn w len 2)) = .next (s.setTxn (refTxn w len 3)) := by
  rw [refTxn_of_lt h, refTxn_of_lt (succ_lt_refStop h (by decide) (by decide))]
  refine (execBitmask_of_cmp (cmp := cmpsepValue w) rfl).trans ?_
  rw [bitmaskValue_cmpsepValue]
  rfl

theorem execLenmask_refTxn (h : 3 < refStop w len) :
    execLenmask (s.setTxn (refTxn w len 3)) = .next (s.setTxn (refTxn w len 4)) := by
  have hlen : len ≤ 15 := (refGate_len_iff w len).1 (refGate_of_lt_refStop (lt_trans (by decide) h))
  rw [refTxn_of_lt h, refTxn_of_lt (succ_lt_refStop h (by decide) (by decide))]
  refine (execLenmask_of_rawbm_of_len (rawbm := BitVec.ofNat 16 (refRaw w)) (len := len) rfl rfl).trans ?_
  rw [lenmaskValue_refRaw w hlen]
  rfl

theorem execHash_refTxn (h : 4 < refStop w len) :
    execHash (s.setTxn (refTxn w len 4)) = .next (s.setTxn (refTxn w len 5)) := by
  rw [refTxn_of_lt h, refTxn_of_lt (succ_lt_refStop h (by decide) (by decide))]
  refine (execHash_of_bm (bm := refBitmap w len) rfl).trans ?_
  rw [hashCode_hashProduct]
  rfl

theorem execPidlook_refTxn (h : 5 < refStop w len) :
    execPidlook (s.setTxn (refTxn w len 5)) = .next (s.setTxn (refTxn w len 6)) := by
  rw [refTxn_of_lt h]
  exact (execPidlook_of_hc (hc := refHash (refBitmap w len)) rfl).trans
    (gate_refTxn (c := .shapeHash) s h rfl (refGate_shapeHash w len) rfl)

theorem execShapeconf_refTxn (h : 6 < refStop w len) :
    execShapeconf (s.setTxn (refTxn w len 6)) = .next (s.setTxn (refTxn w len 7)) := by
  rw [refTxn_of_lt h]
  exact (execShapeconf_of_bm_of_pid (bm := refBitmap w len) (pid := refPid w len) rfl rfl).trans
    (gate_refTxn (c := .shapeConfirm) s h rfl (refGate_shapeConfirm w len) rfl)

theorem execDescsel_refTxn (h : 7 < refStop w len) :
    execDescsel (s.setTxn (refTxn w len 7)) = .next (s.setTxn (refTxn w len 8)) := by
  rw [refTxn_of_lt h, refTxn_of_lt (succ_lt_refStop h (by decide) (by decide))]
  exact execDescsel_of_pid (pid := refPid w len) rfl

theorem execGather_refTxn (h : 8 < refStop w len) :
    execGather (s.setTxn (refTxn w len 8)) = .next (s.setTxn (refTxn w len 9)) := by
  rw [refTxn_of_lt h, refTxn_of_lt (succ_lt_refStop h (by decide) (by decide))]
  refine (execGather_of_w_of_desc (w := w) (d := refDesc w len) rfl rfl).trans ?_
  rw [gatherValue_refDesc]
  rfl

theorem execLzchk_refTxn (h : 9 < refStop w len) :
    execLzchk (s.setTxn (refTxn w len 9)) = .next (s.setTxn (refTxn w len 10)) := by
  rw [refTxn_of_lt h]
  exact (execLzchk_of_gl_of_desc (gl := refGl w len) (d := refDesc w len) rfl rfl).trans
    (gate_refTxn (c := .leadingZero) s h (by rw [leadingLanes_eq]; rfl) (refGate_leadingZero w len) rfl)

theorem execCanon_refTxn (h : 10 < refStop w len) :
    execCanon (s.setTxn (refTxn w len 10)) = .next (s.setTxn (refTxn w len 11)) := by
  rw [refTxn_of_lt h, refTxn_of_lt (succ_lt_refStop h (by decide) (by decide))]
  refine (execCanon_of_gl_of_desc (gl := refGl w len) (d := refDesc w len) rfl rfl).trans ?_
  rw [canonValue_refGl]
  rfl

theorem execSubzero_refTxn (h : 11 < refStop w len) :
    execSubzero (s.setTxn (refTxn w len 11)) = .next (s.setTxn (refTxn w len 12)) := by
  rw [refTxn_of_lt h, refTxn_of_lt (succ_lt_refStop h (by decide) (by decide))]
  refine (execSubzero_of_cl (cl := refCl w len) rfl).trans ?_
  rw [subzeroValue_refCl]
  rfl

theorem execDigchk_refTxn (h : 12 < refStop w len) :
    execDigchk (s.setTxn (refTxn w len 12)) = .next (s.setTxn (refTxn w len 13)) := by
  rw [refTxn_of_lt h]
  exact (execDigchk_of_dl (dl := refDl w len) rfl).trans
    (gate_refTxn (c := .digitRange) s h rfl (refGate_digitRange w len) rfl)

theorem execWmul_refTxn (h : 13 < refStop w len) :
    execWmul (s.setTxn (refTxn w len 13)) = .next (s.setTxn (refTxn w len 14)) := by
  rw [refTxn_of_lt h, refTxn_of_lt (succ_lt_refStop h (by decide) (by decide))]
  exact execWmul_of_dl (dl := refDl w len) rfl

theorem execPairadd_refTxn (h : 14 < refStop w len) :
    execPairadd (s.setTxn (refTxn w len 14)) = .next (s.setTxn (refTxn w len 15)) := by
  rw [refTxn_of_lt h, refTxn_of_lt (succ_lt_refStop h (by decide) (by decide))]
  refine (execPairadd_of_p (p := wmulValue (refDl w len)) rfl).trans ?_
  rw [pairaddValue_wmulValue]
  rfl

theorem execFold_refTxn (h : 15 < refStop w len) :
    execFold (s.setTxn (refTxn w len 15)) = .next (s.setTxn (refTxn w len 16)) := by
  rw [refTxn_of_lt h, refTxn_of_lt (succ_lt_refStop h (by decide) (by decide))]
  refine (execFold_of_ps (ps := pairaddValue (wmulValue (refDl w len))) ?_).trans ?_
  · rw [pairaddValue_wmulValue]
    rfl
  · rw [foldValue_refDl]
    rfl

theorem execOvfchk_refTxn (h : 16 < refStop w len) :
    execOvfchk (s.setTxn (refTxn w len 16)) = .next (s.setTxn (refTxn w len 17)) := by
  rw [refTxn_of_lt h]
  refine (execOvfchk_of_s (v := foldValue (pairaddValue (wmulValue (refDl w len)))) ?_).trans
    (gate_refTxn (c := .overflow) s h rfl (refGate_overflow w len) rfl)
  rw [foldValue_refDl]
  rfl

/-- A transaction that has left G5 behind has sums of at most 255. -/
theorem refSum_le_of_lt_refStop (h : 17 < refStop w len) (g : Fin 4) : refSum w len g ≤ 255 :=
  (refGate_overflow_iff w len).1 (refGate_of_lt_refStop h) g

theorem execNarrow_refTxn (h : 17 < refStop w len) :
    execNarrow (s.setTxn (refTxn w len 17)) = .next (s.setTxn (refTxn w len 18)) := by
  rw [refTxn_of_lt h, refTxn_of_lt (succ_lt_refStop h (by decide) (by decide))]
  refine (execNarrow_of_s (v := foldValue (pairaddValue (wmulValue (refDl w len)))) ?_).trans ?_
  · rw [foldValue_refDl]
    rfl
  · rw [narrowValue_refSum (refSum_le_of_lt_refStop h)]
    rfl

/-- The transaction of the closed form that `PACK` has ended (R94, R98). -/
theorem refTxn_of_pack (h : refCause w len = none) :
    refTxn w len 19 =
      { progressTxn w len 18 with res := some (refResult w len), ok := some true, stage := .doneOk } := by
  simp [progressTxn, refTxn, afterOp, refStop_of_none h, h]

theorem execPack_refTxn (h : 18 < refStop w len) :
    execPack (s.setTxn (refTxn w len 18)) = .next (s.setTxn (refTxn w len 19)) := by
  rw [refTxn_of_lt h, refTxn_of_pack (refCause_of_pack h)]
  refine (execPack_of_b (b := Vector.ofFn fun g => BitVec.ofNat 8 (refSum w len g)) rfl).trans ?_
  rw [packValue_refSum (refSum_le_of_lt_refStop (lt_trans (by decide) h))]
  rfl

end Operations

/-! ## The chain -/

/-- The instruction whose ordinal is `ord` (R56). -/
def stageInstr (ord : Fin 19) : Instr :=
  (#v[.lenchk, .cmpsep, .bitmask, .lenmask, .hash, .pidlook, .shapeconf, .descsel, .gather, .lzchk, .canon, .subzero, .digchk,
    .wmul, .pairadd, .fold, .ovfchk, .narrow, .pack] : Vector Instr 19)[ord]

theorem encode_stageInstr : ∀ ord : Fin 19, encode (stageInstr ord) = .stage (BitVec.ofNat 5 ord.val) := by
  decide

/-- The chain runs the instructions in the order of their ordinals (R97). -/
theorem chainOps_eq : chainOps = List.ofFn fun ord => exec (stageInstr ord) := rfl

theorem chainOps_length : chainOps.length = 19 := rfl

theorem chainOps_getElem {n : Nat} (h : n < chainOps.length) : chainOps[n] = exec (stageInstr ⟨n, h⟩) := by
  simp only [chainOps_eq, List.getElem_ofFn]

/-- The operation of an ordinal takes the closed form's transaction on by one operation. -/
theorem exec_stageInstr_refTxn (s : State) {w : Window} {len : Nat} (ord : Fin 19) (h : ord.val < refStop w len) :
    exec (stageInstr ord) (s.setTxn (refTxn w len ord.val)) = .next (s.setTxn (refTxn w len (ord.val + 1))) := by
  fin_cases ord
  · exact execLenchk_refTxn s h
  · exact execCmpsep_refTxn s h
  · exact execBitmask_refTxn s h
  · exact execLenmask_refTxn s h
  · exact execHash_refTxn s h
  · exact execPidlook_refTxn s h
  · exact execShapeconf_refTxn s h
  · exact execDescsel_refTxn s h
  · exact execGather_refTxn s h
  · exact execLzchk_refTxn s h
  · exact execCanon_refTxn s h
  · exact execSubzero_refTxn s h
  · exact execDigchk_refTxn s h
  · exact execWmul_refTxn s h
  · exact execPairadd_refTxn s h
  · exact execFold_refTxn s h
  · exact execOvfchk_refTxn s h
  · exact execNarrow_refTxn s h
  · exact execPack_refTxn s h

/-- The transaction of the closed form is rejected exactly where it has stopped with a cause. -/
theorem refTxn_stage_eq_doneReject_iff (w : Window) (len n : Nat) :
    (refTxn w len n).stage = .doneReject ↔ refStop w len ≤ n ∧ refCause w len ≠ none := by
  simp only [refTxn]
  split_ifs with hlt hnone
  · simp [hlt]
  · simp [hnone]
  · simp [hnone, not_lt.1 hlt]

/-- A stretch of `m` operations of the chain, from the closed form's transaction after `n`, leaves the closed form's transaction
after `n + m`, or where the transaction has stopped before. -/
theorem runOps_refTxn (s : State) {w : Window} {len n : Nat} (m : Nat) (h : n < refStop w len) (hm : n + m ≤ 19) :
    runOps ((chainOps.drop n).take m) (s.setTxn (refTxn w len n)) =
      .next (s.setTxn (refTxn w len (min (n + m) (refStop w len)))) := by
  induction m generalizing n with
  | zero => rw [Nat.add_zero, min_eq_left h.le, List.take_zero]; rfl
  | succ m ih =>
    have hn : n < chainOps.length := by rw [chainOps_length]; omega
    have hop := exec_stageInstr_refTxn s ⟨n, hn⟩ h
    rw [List.drop_eq_getElem_cons hn, List.take_succ_cons, chainOps_getElem hn]
    by_cases hstop : n + 1 < refStop w len
    · have hgo : (refTxn w len (n + 1)).stage ≠ .doneReject := by
        rw [Ne, refTxn_stage_eq_doneReject_iff]
        omega
      rw [runOps_cons_of_next _ hop hgo, ih hstop (by omega), Nat.add_right_comm, Nat.add_assoc]
    · have hend : refStop w len = n + 1 := by omega
      rw [min_eq_right (by omega), hend]
      by_cases hnone : refCause w len = none
      · obtain rfl : m = 0 := by rw [refStop_of_none hnone] at hend; omega
        rw [List.take_zero, runOps_singleton hop]
      · exact runOps_cons_of_reject _ hop ((refTxn_stage_eq_doneReject_iff _ _ _).2 ⟨hend.le, hnone⟩)

/-- `PARSE` leaves the closed form's transaction where it stops (R97). -/
theorem execParse_eq (s : State) :
    execParse s =
      .next (s.setTxn (refTxn (Memory.lanes s.win) s.length (refStop (Memory.lanes s.win) s.length))) := by
  have hstop := refStop_pos_le (Memory.lanes s.win) s.length
  have hrun := runOps_refTxn s 19 hstop.1 (by omega)
  rw [min_eq_right (by omega)] at hrun
  rw [execParse, State.present, fresh_eq_refTxn, ← hrun]
  rfl

/-- Settles O40: the whole chain, from the transaction that has just been presented. -/
theorem parseIsClosedForm : Obligations.ParseIsClosedForm :=
  fun s => (exec_parse s).trans (execParse_eq s)

end Sys2Proof.Machine
end

section
/-!
PROOFS of the family `other`, the invariant: a step of a transaction in progress takes the closed form's transaction on (R97, R98), a
step between transactions carries out the host's act (R131), and both keep the written spaces canonical (R25).
-/

namespace Sys2Proof.Machine

open Sys2Proof

/-! ## A step of a transaction on the chain -/

theorem refTxn_stage_of_lt {w : Window} {len n : Nat} (h : n < refStop w len) (hn : n < 19) :
    (refTxn w len n).stage = .run ⟨n, hn⟩ := by
  rw [refTxn_of_lt h]
  exact congrArg Stage.run (Fin.ext (Nat.mod_eq_of_lt hn))

/-- The four operations of the dispatcher are those of the ordinals 4 to 7. -/
theorem dispatcherOps_eq : dispatcherOps = (chainOps.drop 4).take 4 := rfl

/-- At stage 4, read by the rows, a step does what the dispatcher does. -/
theorem step_eq_dispatcher {s : State} {bm : BitVec 16} (hstage : s.txn.stage = .run 4) (hrows : s.byDecoder = true)
    (hbm : s.txn.bm = some bm) : step s = runOps dispatcherOps s := by
  cases hdecode : decode (.bitmap bm) with
  | ok i => rw [step_of_bitmap hstage hrows hbm hdecode, exec_eq_dispatcher hbm hdecode]
  | error e => rw [step_of_undecoded hstage hrows hbm hdecode, undecoded_eq_dispatcher hbm hdecode]

section OnChain
variable {s : State} {w : Window} {len n : Nat} (htxn : s.txn = refTxn w len n) (h : n < refStop w len)
include htxn h

/-- A step of a transaction on the chain runs the operation of its ordinal, when the bitmap is not read by the rows. -/
theorem step_refTxn_of_key (hkey : n = 4 → s.byDecoder = false) :
    step s = .next (s.setTxn (refTxn w len (n + 1))) := by
  have hn : n < 19 := h.trans_le (refStop_pos_le w len).2
  have hstage : s.txn.stage = .run ⟨n, hn⟩ := htxn ▸ refTxn_stage_of_lt h hn
  rw [step_of_run hstage (fun h4 => hkey (Fin.val_eq_of_eq h4)) (encode_stageInstr _),
    ← exec_stageInstr_refTxn s ⟨n, hn⟩ h, ← htxn, State.setTxn_self]

/-- A step of a transaction on the chain takes it further along the chain, by one operation or by the four of the dispatcher. -/
theorem step_refTxn : ∃ m, n < m ∧ m ≤ refStop w len ∧ step s = .next (s.setTxn (refTxn w len m)) := by
  by_cases hrows : n = 4 ∧ s.byDecoder = true
  · obtain ⟨rfl, hrows⟩ := hrows
    have hbm : s.txn.bm = some (refBitmap w len) := by rw [htxn]; rfl
    have hstage : s.txn.stage = .run 4 := htxn ▸ refTxn_stage_of_lt h (by decide)
    refine ⟨min 8 (refStop w len), by omega, by omega, ?_⟩
    rw [step_eq_dispatcher hstage hrows hbm, dispatcherOps_eq, ← runOps_refTxn s 4 h (by decide), ← htxn, State.setTxn_self]
  · exact ⟨n + 1, Nat.lt_succ_self n, h, step_refTxn_of_key htxn h fun h4 => by simpa [h4] using hrows⟩

end OnChain

/-- A transaction on the chain that is in progress has an ordinal below its stop. -/
theorem OnChain_of_run {t : Txn} {ord : Fin 19} (h : t.OnChain) (hstage : t.stage = .run ord) :
    ∃ w len, ord.val < refStop w len ∧ t = refTxn w len ord.val := by
  obtain rfl | ⟨w, len, n, hle, rfl⟩ := h
  · cases hstage
  · obtain hlt | rfl := lt_or_eq_of_le hle
    · have hn : n < 19 := hlt.trans_le (refStop_pos_le w len).2
      rw [refTxn_stage_of_lt hlt hn, Stage.run.injEq] at hstage
      exact ⟨w, len, hstage ▸ hlt, hstage ▸ rfl⟩
    · simp only [refTxn, lt_irrefl, if_false] at hstage
      split at hstage <;> cases hstage

/-! ## The host's acts -/

/-- A rising edge of `clk` changes the ranks alone, and not their number (R7, R105). -/
theorem clock_eq (s : State) (rst v : Bool) :
    ∃ (r : List Rank) (k : Nat), r.length = s.pipe.length ∧ s.clock rst v = s.setPipe r k := by
  unfold State.clock
  split
  · exact ⟨s.pipe, s.drawn, rfl, rfl⟩
  · split
    · exact ⟨_, _, by simp, rfl⟩
    · exact ⟨_, _, by simp, rfl⟩

/-- The bytes that `LOAD` writes fill the window. -/
theorem loadBytes_length (buf : Memory) (n : Nat) : (loadBytes buf n).length = 16 := by
  rw [loadBytes, List.length_map, List.length_range]

/-- No transaction at all is on the chain, and so is one that has just been presented. -/
theorem OnChain_fresh (w : Window) (len : Nat) : (Txn.fresh w len).OnChain :=
  .inr ⟨w, len, 0, Nat.zero_le _, fresh_eq_refTxn w len⟩

/-- What a transaction leaves is dropped without touching the invariant. -/
theorem Inv_retire {s : State} (h : s.Inv) : s.retire.Inv :=
  ⟨h.win_wf, h.host_wf, h.port_width, .inl rfl⟩

/-- What the ports hold may be any canonical window and any length. -/
theorem Inv_setPorts {s : State} (h : s.Inv) {m : Memory} (hm : Memory.wf 16 m = true) (n : Nat) :
    ((s.setWin m).setLength n).Inv :=
  ⟨hm, h.host_wf, h.port_width, h.txn_on_chain⟩

/-- `PARSE` keeps the invariant. -/
theorem Inv_execParse {s : State} (h : s.Inv) : ∃ t, exec .parse s = .next t ∧ t.Inv :=
  ⟨_, (exec_parse s).trans (execParse_eq s), h.win_wf, h.host_wf, h.port_width, .inr ⟨_, _, _, le_rfl, rfl⟩⟩

/-- `LOAD` keeps the invariant. -/
theorem Inv_execLoad {s : State} (h : s.Inv) : ∃ t, exec .load s = .next t ∧ t.Inv :=
  ⟨_, exec_load s, Inv_setPorts h (Memory.wf_writeFrom _ h.win_wf (by rw [loadBytes_length])) _⟩

/-- A step between transactions keeps the invariant, whatever the host's next act is. -/
theorem step_of_ready_inv {s : State} (hready : s.Ready) (hinv : s.Inv) : ∃ t, step s = .next t ∧ t.Inv := by
  have hfetch := fetch_of_ready hready
  have hretired := Inv_retire hinv
  cases hreq : s.retire.requests with
  | nil => exact ⟨_, step_of_host (hfetch.trans (fetchRequest_nil hreq)), hretired⟩
  | cons r rest =>
    have hrest : (s.retire.setRequests rest).Inv :=
      ⟨hretired.win_wf, hretired.host_wf, hretired.port_width, hretired.txn_on_chain⟩
    cases r with
    | buffer bytes =>
      exact ⟨_, step_of_host (hfetch.trans (fetchRequest_buffer hreq)), hrest.win_wf, Memory.wf_ofBytes bytes,
        hrest.port_width, hrest.txn_on_chain⟩
    | load =>
      rw [step_of_fetch_code (i := .load) (hfetch.trans (fetchRequest_load hreq)) rfl]
      exact Inv_execLoad hrest
    | drive bus n =>
      exact ⟨_, step_of_host (hfetch.trans (fetchRequest_drive hreq)),
        Inv_setPorts hrest (Memory.wf_writeFrom _ hretired.win_wf (by simp)) n⟩
    | present =>
      exact ⟨_, step_of_host (hfetch.trans (fetchRequest_present hreq)), hrest.win_wf, hrest.host_wf, hrest.port_width,
        OnChain_fresh _ _⟩
    | parse =>
      rw [step_of_fetch_code (i := .parse) (hfetch.trans (fetchRequest_parse hreq)) rfl]
      exact Inv_execParse hrest
    | cycle rst v =>
      obtain ⟨r, k, -, hclock⟩ := clock_eq (s.retire.setRequests rest) rst v
      rw [step_of_host (hfetch.trans (fetchRequest_cycle hreq)), hclock]
      exact ⟨_, rfl, hrest.win_wf, hrest.host_wf, hrest.port_width, hrest.txn_on_chain⟩

/-- A state is ready, or has a transaction in progress. -/
theorem ready_or_run (s : State) : s.Ready ∨ ∃ ord, s.txn.stage = .run ord :=
  or_iff_not_imp_right.2 fun h ord hstage => h ⟨ord, hstage⟩

/-- From a state with the invariant a step answers a next state, and that state has the invariant. -/
theorem step_inv {s : State} (hinv : s.Inv) : ∃ t, step s = .next t ∧ t.Inv := by
  obtain hready | ⟨ord, hstage⟩ := ready_or_run s
  · exact step_of_ready_inv hready hinv
  · obtain ⟨w, len, hlt, htxn⟩ := OnChain_of_run hinv.txn_on_chain hstage
    obtain ⟨m, -, hle, hstep⟩ := step_refTxn htxn hlt
    exact ⟨_, hstep, hinv.win_wf, hinv.host_wf, hinv.port_width, .inr ⟨w, len, m, hle, rfl⟩⟩

/-- Settles O51: a step has at most one next state, and that one has the invariant. -/
theorem stepKeepsInvariant : Obligations.StepKeepsInvariant := by
  intro s t hinv hstep
  obtain ⟨u, hnext, hu⟩ := step_inv hinv
  rw [hstep, Host.Outcome.next.injEq] at hnext
  exact hnext ▸ hu

/-- Settles O52. -/
theorem invariantNeverStops : Obligations.InvariantNeverStops :=
  fun _ hinv => (step_inv hinv).imp fun _ h => h.1

/-- Settles O50: a reset state holds no byte, no transaction and no valid rank. -/
theorem resetHasInvariant : Obligations.ResetHasInvariant := by
  have hreset : ∀ lenW lat, 5 ≤ lenW → (State.resetWith lenW lat).Inv := fun _ _ hw => ⟨rfl, rfl, hw, .inl rfl⟩
  refine ⟨hreset 5 0 le_rfl, fun lenW lat hw => ⟨hreset lenW lat hw, rfl, ?_, fun r hr => ?_⟩⟩
  · simp [State.resetWith]
  · obtain ⟨k, -, rfl⟩ := List.mem_map.1 hr
    rfl

/-! ## What the invariant says of a transaction -/

/-- Settles O53: where the chain has stopped, either all six gates have passed or the flag of the one that failed is 0. -/
theorem okIsConjunction : Obligations.OkIsConjunction := by
  intro s hinv hend
  obtain hempty | ⟨w, len, n, hle, htxn⟩ := hinv.txn_on_chain
  · rw [hempty] at hend
    simp [Txn.empty] at hend
  · have hstop : n = refStop w len := by
      by_contra hne
      have hlt : n < refStop w len := by omega
      rw [htxn, refTxn_stage_of_lt hlt (hlt.trans_le (refStop_pos_le w len).2)] at hend
      simp at hend
    rw [htxn]
    cases hcause : refCause w len with
    | none =>
      have hpass := (refCause_eq_none_iff w len).1 hcause
      rw [hstop, refStop_of_none hcause]
      simp [refTxn, afterOp, refStop_of_none hcause, hcause, hpass]
    | some c =>
      have hfail := (refCause_eq_some hcause).1
      rw [hstop, refStop_of_some hcause, refTxn_of_cause hcause]
      cases c <;> simp [rejectedTxn, refTxn, afterOp, gateOrdinal, hfail]

/-- A value that exists stays when more operations have run. -/
theorem afterOp_mono {α : Type} {n m ord : Nat} {v x : α} (h : n ≤ m) (hx : afterOp n ord v = some x) :
    afterOp m ord v = some x := by
  have hlt : ord < n := by
    by_contra hle
    rw [afterOp_of_le v (not_lt.1 hle)] at hx
    cases hx
  rwa [afterOp_of_lt v hlt, ← afterOp_of_lt v (hlt.trans_le h)] at hx

/-- Settles O54: the step goes from the closed form's transaction to a later one on the same window and length. -/
theorem writtenOnce : Obligations.WrittenOnce := by
  intro s t ord hinv hstage hstep
  obtain ⟨w, len, hlt, htxn⟩ := OnChain_of_run hinv.txn_on_chain hstage
  obtain ⟨m, hm, -, hnext⟩ := step_refTxn htxn hlt
  rw [hstep, Host.Outcome.next.injEq] at hnext
  subst hnext
  rw [State.setTxn_txn, htxn]
  have hkeep {α : Type} {k : Nat} {v : α} : ∀ x, afterOp ord.val k v = some x → afterOp m k v = some x :=
    fun _ => afterOp_mono hm.le
  refine ⟨rfl, rfl, hkeep, hkeep, hkeep, hkeep, hkeep, hkeep, hkeep, hkeep, hkeep, hkeep, hkeep, hkeep, hkeep, hkeep, hkeep,
    hkeep, hkeep, hkeep, hkeep, hkeep, hkeep, ?_, ?_⟩
  all_goals
    rw [refTxn_of_lt hlt]
    rfl

/-! ## A transaction that is run operation by operation -/

/-- A run begins with a step. -/
theorem run_succ_of_next {s t : State} (k : Nat) (h : step s = .next t) :
    Host.Core.run core (k + 1) s = Host.Core.run core k t := by
  have hcore : core.step s = .next t := h
  simp only [Host.Core.run, hcore]

/-- Steps that hash the bitmap take the transaction on one operation each. -/
theorem run_refTxn {s : State} {w : Window} {len n : Nat} (k : Nat) (htxn : s.txn = refTxn w len n)
    (hkey : s.byDecoder = false) (hk : n + k ≤ refStop w len) :
    Host.Core.run core k s = .next (s.setTxn (refTxn w len (n + k))) := by
  induction k generalizing s n with
  | zero => exact congrArg Host.Outcome.next (by rw [Nat.add_zero, ← htxn, State.setTxn_self])
  | succ k ih =>
    have hstep := step_refTxn_of_key htxn (by omega) fun _ => hkey
    have hrest := ih (s := s.setTxn (refTxn w len (n + 1))) (n := n + 1) rfl hkey (by omega)
    refine (run_succ_of_next k hstep).trans (hrest.trans ?_)
    rw [State.setTxn_setTxn, Nat.add_right_comm, Nat.add_assoc]

/-- The outcome of the closed form where it stops: the result, or the rejection (R98, R115). -/
theorem refTxn_refStop_cases (w : Window) (len : Nat) :
    (refCause w len = none ∧ (refTxn w len (refStop w len)).stage = .doneOk ∧
        (refTxn w len (refStop w len)).ok = some true ∧ (refTxn w len (refStop w len)).res = some (refResult w len)) ∨
      (refCause w len ≠ none ∧ (refTxn w len (refStop w len)).stage = .doneReject ∧
        (refTxn w len (refStop w len)).ok = some false ∧ (refTxn w len (refStop w len)).res = some 0) := by
  by_cases h : refCause w len = none
  · exact .inl (by simp [refTxn, h])
  · exact .inr (by simp [refTxn, h])

/-- Settles O42: as many steps as the closed form says. -/
theorem transactionTerminates : Obligations.TransactionTerminates := by
  intro s w len htxn hkey
  refine ⟨(refStop_pos_le w len).2, ?_, ?_⟩
  · have hrun := run_refTxn (refStop w len) (htxn.trans (fresh_eq_refTxn w len)) hkey (by omega)
    rwa [Nat.zero_add] at hrun
  · exact (refTxn_refStop_cases w len).imp And.right And.right

end Sys2Proof.Machine
end

section
/-!
PROOFS of the family `other`, what the operations do not touch: an operation of a transaction reads and writes the transaction alone
(R29, R118), only a gate rejects (R112), the stage index goes forward (R15), no step changes the build (R7), and what `LOAD` reads and
writes (R32).
-/

namespace Sys2Proof.Machine

open Sys2Proof

/-! ## Operations on the transaction alone -/

/-- The outcome of an operation, with its transaction carried over to the state `u`. -/
def carry (u : State) : Out → Out
  | .next t => .next (u.setTxn t.txn)
  | .fault f => .fault f
  | .refused r => .refused r

/-- An operation that reads the transaction alone and writes the transaction alone: in a state with the same transaction it makes the
same change. -/
def TxnOnly (op : State → Out) : Prop :=
  ∀ s u : State, u.txn = s.txn → op u = carry u (op s)

/-- Such an operation leaves everything but the transaction as it was (R29). -/
theorem TxnOnly.frame {op : State → Out} (h : TxnOnly op) {s t : State} (hop : op s = .next t) : t = s.setTxn t.txn := by
  have hself := h s s rfl
  rw [hop, carry, Host.Outcome.next.injEq] at hself
  exact hself

/-- A read of a datapath value carries over. -/
theorem carry_need {α : Type} (u : State) (v : Option α) (name : ValueName) (k : α → Out) :
    carry u (need v name k) = need v name fun x => carry u (k x) := by
  cases v <;> rfl

theorem carry_advance (u s : State) (t : Txn) (o : Fin 19) : carry u (s.advance t o) = u.advance t o := rfl

theorem carry_gate (u s : State) (t : Txn) (c : Cause) (pass : Bool) (o : Fin 19) :
    carry u (s.gate t c pass o) = u.gate t c pass o := by
  cases pass <;> rfl

/-- The operations of the chain read and write the transaction alone. -/
theorem txnOnly_stageInstr (ord : Fin 19) : TxnOnly (exec (stageInstr ord)) := by
  intro s u h
  fin_cases ord
  · change execLenchk u = carry u (execLenchk s)
    simp only [execLenchk, h, carry_need, carry_gate]
  · change execCmpsep u = carry u (execCmpsep s)
    simp only [execCmpsep, h, carry_need, carry_advance]
  · change execBitmask u = carry u (execBitmask s)
    simp only [execBitmask, h, carry_need, carry_advance]
  · change execLenmask u = carry u (execLenmask s)
    simp only [execLenmask, h, carry_need, carry_advance]
  · change execHash u = carry u (execHash s)
    simp only [execHash, h, carry_need, carry_advance]
  · change execPidlook u = carry u (execPidlook s)
    simp only [execPidlook, h, carry_need, carry_gate]
  · change execShapeconf u = carry u (execShapeconf s)
    simp only [execShapeconf, h, carry_need, carry_gate]
  · change execDescsel u = carry u (execDescsel s)
    simp only [execDescsel, h, carry_need, carry_advance]
  · change execGather u = carry u (execGather s)
    simp only [execGather, h, carry_need, carry_advance]
  · change execLzchk u = carry u (execLzchk s)
    simp only [execLzchk, h, carry_need, carry_gate]
  · change execCanon u = carry u (execCanon s)
    simp only [execCanon, h, carry_need, carry_advance]
  · change execSubzero u = carry u (execSubzero s)
    simp only [execSubzero, h, carry_need, carry_advance]
  · change execDigchk u = carry u (execDigchk s)
    simp only [execDigchk, h, carry_need, carry_gate]
  · change execWmul u = carry u (execWmul s)
    simp only [execWmul, h, carry_need, carry_advance]
  · change execPairadd u = carry u (execPairadd s)
    simp only [execPairadd, h, carry_need, carry_advance]
  · change execFold u = carry u (execFold s)
    simp only [execFold, h, carry_need, carry_advance]
  · change execOvfchk u = carry u (execOvfchk s)
    simp only [execOvfchk, h, carry_need, carry_gate]
  · change execNarrow u = carry u (execNarrow s)
    simp only [execNarrow, h, carry_need, carry_advance]
  · change execPack u = carry u (execPack s)
    simp only [execPack, h, carry_need]
    rfl

theorem txnOnly_selectShape (sh : Shape) : TxnOnly fun s => s.selectShape sh := by
  intro s u h
  simp only [State.selectShape, h, carry_advance]

/-- A sequence of such operations is one. -/
theorem txnOnly_runOps {ops : List (State → Out)} (h : ∀ op ∈ ops, TxnOnly op) : TxnOnly (runOps ops) := by
  induction ops with
  | nil => exact fun s u hu => congrArg Host.Outcome.next (by rw [← hu, State.setTxn_self])
  | cons op ops ih =>
    intro s u hu
    have hop := h op List.mem_cons_self s u hu
    have hrest := ih fun op' hmem => h op' (List.mem_cons_of_mem op hmem)
    cases hs : op s with
    | next s' =>
      rw [hs, carry] at hop
      by_cases hstage : s'.txn.stage = .doneReject
      · rw [runOps_cons_of_reject ops hop hstage, runOps_cons_of_reject ops hs hstage, carry]
      · rw [runOps_cons_of_next ops hop hstage, runOps_cons_of_next ops hs hstage, hrest s' (u.setTxn s'.txn) rfl]
        cases runOps ops s' <;> rfl
    | fault f =>
      rw [hs] at hop
      simp only [runOps, hop, hs, carry]
    | refused r =>
      rw [hs] at hop
      simp only [runOps, hop, hs, carry]

theorem txnOnly_dispatcher : TxnOnly (runOps dispatcherOps) := by
  refine txnOnly_runOps fun op hop => ?_
  have hchain : op ∈ chainOps := List.mem_of_mem_drop (List.mem_of_mem_take (dispatcherOps_eq ▸ hop))
  rw [chainOps_eq, List.mem_ofFn] at hchain
  obtain ⟨ord, rfl⟩ := hchain
  exact txnOnly_stageInstr ord

/-- The instructions: a stage operation, one of the two composed ones, or a `SHAPE` row (R56, R57). -/
theorem instr_cases (i : Instr) : (∃ ord, i = stageInstr ord) ∨ i = .parse ∨ i = .load ∨ ∃ sh, i.shape? = some sh := by
  have hstage : ∀ key : BitVec 5, ∀ j ∈ (decodeStage key).toOption, (∃ ord, j = stageInstr ord) ∨ j = .parse ∨ j = .load := by
    decide
  have hdecode := decode_encode i
  cases hcode : encode i with
  | stage key =>
    rw [hcode] at hdecode
    obtain hord | hparse | hload := hstage key i (by rw [show decodeStage key = .ok i from hdecode]; rfl)
    · exact .inl hord
    · exact .inr (.inl hparse)
    · exact .inr (.inr (.inl hload))
  | bitmap bm =>
    rw [hcode] at hdecode
    obtain ⟨sh, -, hsh, -⟩ := shape_of_decodeBitmap hdecode
    exact .inr (.inr (.inr ⟨sh, hsh⟩))

/-- Settles O33: `PARSE` by the closed form, every other operation because it reads and writes the transaction alone. -/
theorem coreWritesNoSpace : Obligations.CoreWritesNoSpace := by
  intro i s t hload hexec
  change t = s.setTxn t.txn
  obtain ⟨ord, rfl⟩ | rfl | rfl | ⟨sh, hsh⟩ := instr_cases i
  · exact (txnOnly_stageInstr ord).frame hexec
  · rw [exec_parse, execParse_eq, Host.Outcome.next.injEq] at hexec
    rw [← hexec, State.setTxn_txn]
  · exact absurd rfl hload
  · rw [exec_of_shape? s hsh] at hexec
    exact (txnOnly_selectShape sh).frame hexec

/-! ## A step of a transaction in progress -/

/-- What a transaction in progress runs: the operation of its ordinal, or at stage 4, read by the rows, what the dispatcher does. -/
def runningOp (s : State) (ord : Fin 19) : State → Out :=
  if ord = 4 ∧ s.byDecoder = true ∧ s.txn.bm ≠ none then runOps dispatcherOps else exec (stageInstr ord)

theorem txnOnly_runningOp (s : State) (ord : Fin 19) : TxnOnly (runningOp s ord) := by
  unfold runningOp
  split
  · exact txnOnly_dispatcher
  · exact txnOnly_stageInstr ord

theorem step_of_runningOp {s : State} {ord : Fin 19} (hstage : s.txn.stage = .run ord) : step s = runningOp s ord s := by
  unfold runningOp
  split
  next h =>
    obtain ⟨rfl, hrows, hbm⟩ := h
    obtain ⟨bm, hbm⟩ := Option.ne_none_iff_exists'.1 hbm
    exact step_eq_dispatcher hstage hrows hbm
  next h =>
    have hfetch : fetchStage s ord = .stage (BitVec.ofNat 5 ord.val) := by
      by_cases hrows : ord = 4 ∧ s.byDecoder = true
      · have hbm : s.txn.bm = none := by simpa [hrows] using h
        rw [fetchStage, if_pos hrows, hbm, hrows.1]
        rfl
      · exact if_neg hrows
    exact step_of_fetch_code ((fetch_of_run hstage).trans (by rw [hfetch, ← encode_stageInstr])) (decode_encode _)

/-- A step of a transaction in progress changes the transaction alone (R29). -/
theorem step_frame {s t : State} {ord : Fin 19} (hstage : s.txn.stage = .run ord) (hstep : step s = .next t) :
    t = s.setTxn t.txn :=
  (txnOnly_runningOp s ord).frame ((step_of_runningOp hstage).symm.trans hstep)

/-- Settles O56: what runs is fixed by the transaction and the selector of stage 4, and it reads and writes the transaction alone. -/
theorem notInterruptible : Obligations.NotInterruptible := by
  intro s t ord r win n hstage hstep
  have hframe := step_frame hstage hstep
  refine ⟨hframe, ?_⟩
  have hother := txnOnly_runningOp s ord s { s with requests := r, win := win, length := n } rfl
  rw [← step_of_runningOp hstage, hstep, carry] at hother
  refine (step_of_runningOp (s := { s with requests := r, win := win, length := n }) hstage).trans (hother.trans ?_)
  rw [hframe]
  rfl

/-! ## What an operation of the chain can do to the stage index -/

/-- A rejection writes no datapath value (R115). -/
theorem reject_within (t : Txn) (c : Cause) : (t.reject c).Within t := by
  rw [reject_eq]
  cases c <;> simp [Txn.Within, Txn.setGate, Txn.setG0, Txn.setG1, Txn.setG2, Txn.setG3, Txn.setG4, Txn.setG5]

/-- What a transaction has produced is part of what it holds. -/
theorem produced_within {t u : Txn} (h : t.Within u) : t.produced.Within u := by
  obtain ⟨hw, hlen, hcmp, hrawbm, hbm, hprod, hhc, hpid, hdesc, hgl, hlzmask, hrest⟩ := h
  exact ⟨hw, hlen, hcmp, hrawbm, hbm, hprod, hhc, fun v hv => hpid v (Txn.produced_pid_eq_some hv).2, hdesc, hgl,
    fun v hv => hlzmask v (Txn.produced_lzmask_eq_some hv).2, hrest⟩

/-- What an operation of ordinal `ord` that answers a next state does to the stage index: it goes on to the next ordinal, or ends the
transaction as `PACK`, or rejects it as a gate that has produced nothing (R15, R112, R116). -/
def StageMoves (ord : Nat) (s t : State) : Prop :=
  (∃ o : Fin 19, o.val = ord + 1 ∧ t.txn.stage = .run o) ∨ (ord = 18 ∧ t.txn.stage = .doneOk) ∨
    ∃ (c : Cause) (u : Txn), ord = gateOrdinal c ∧ t = s.setTxn (u.reject c) ∧ (u.reject c).produced.Within s.txn

theorem stageMoves_advance {s t : State} {u : Txn} {o : Fin 19} {ord : Nat} (h : s.advance u o = .next t)
    (ho : o.val = ord + 1) : StageMoves ord s t := by
  rw [advance_eq, Host.Outcome.next.injEq] at h
  exact .inl ⟨o, ho, h ▸ rfl⟩

theorem stageMoves_gate {s t : State} {u : Txn} {c : Cause} {pass : Bool} {o : Fin 19} (h : s.gate u c pass o = .next t)
    (ho : o.val = gateOrdinal c + 1) (hwithin : (u.reject c).produced.Within s.txn) : StageMoves (gateOrdinal c) s t := by
  obtain ⟨-, rfl⟩ | ⟨-, rfl⟩ := gate_cases h
  · exact .inl ⟨o, ho, rfl⟩
  · exact .inr (.inr ⟨c, u, rfl, rfl, hwithin⟩)

theorem stageMoves_stageInstr {ord : Fin 19} {s t : State} (h : exec (stageInstr ord) s = .next t) :
    StageMoves ord.val s t := by
  have hreject : ∀ c, (s.txn.reject c).produced.Within s.txn := fun c => produced_within (reject_within s.txn c)
  fin_cases ord
  · obtain ⟨_, -, h⟩ := need_eq_next h
    exact stageMoves_gate h rfl (hreject .len)
  · obtain ⟨_, -, h⟩ := need_eq_next h
    exact stageMoves_advance h rfl
  · obtain ⟨_, -, h⟩ := need_eq_next h
    exact stageMoves_advance h rfl
  · obtain ⟨_, -, h⟩ := need_eq_next h
    obtain ⟨_, -, h⟩ := need_eq_next h
    exact stageMoves_advance h rfl
  · obtain ⟨_, -, h⟩ := need_eq_next h
    exact stageMoves_advance h rfl
  · obtain ⟨_, -, h⟩ := need_eq_next h
    exact stageMoves_gate h rfl (hreject .shapeHash)
  · obtain ⟨_, -, h⟩ := need_eq_next h
    obtain ⟨_, -, h⟩ := need_eq_next h
    exact stageMoves_gate h rfl (hreject .shapeConfirm)
  · obtain ⟨_, -, h⟩ := need_eq_next h
    exact stageMoves_advance h rfl
  · obtain ⟨_, -, h⟩ := need_eq_next h
    obtain ⟨_, -, h⟩ := need_eq_next h
    exact stageMoves_advance h rfl
  · obtain ⟨_, -, h⟩ := need_eq_next h
    obtain ⟨_, -, h⟩ := need_eq_next h
    exact stageMoves_gate h rfl (hreject .leadingZero)
  · obtain ⟨_, -, h⟩ := need_eq_next h
    obtain ⟨_, -, h⟩ := need_eq_next h
    exact stageMoves_advance h rfl
  · obtain ⟨_, -, h⟩ := need_eq_next h
    exact stageMoves_advance h rfl
  · obtain ⟨_, -, h⟩ := need_eq_next h
    exact stageMoves_gate h rfl (hreject .digitRange)
  · obtain ⟨_, -, h⟩ := need_eq_next h
    exact stageMoves_advance h rfl
  · obtain ⟨_, -, h⟩ := need_eq_next h
    exact stageMoves_advance h rfl
  · obtain ⟨_, -, h⟩ := need_eq_next h
    exact stageMoves_advance h rfl
  · obtain ⟨_, -, h⟩ := need_eq_next h
    exact stageMoves_gate h rfl (hreject .overflow)
  · obtain ⟨_, -, h⟩ := need_eq_next h
    exact stageMoves_advance h rfl
  · obtain ⟨_, -, h⟩ := need_eq_next h
    exact .inr (.inl ⟨rfl, Host.Outcome.next.inj h ▸ rfl⟩)

/-- Where `PARSE` rejects, it leaves `OK` = 0 and `RES` = 0 (R115). -/
theorem execParse_of_doneReject {s t : State} (h : execParse s = .next t) (hstage : t.txn.stage = .doneReject) :
    t.txn.ok = some false ∧ t.txn.res = some 0 := by
  rw [execParse_eq, Host.Outcome.next.injEq] at h
  subst h
  rw [State.setTxn_txn] at hstage ⊢
  obtain ⟨-, hok, -⟩ | ⟨-, -, hok, hres⟩ := refTxn_refStop_cases (Memory.lanes s.win) s.length
  · rw [hok] at hstage; cases hstage
  · exact ⟨hok, hres⟩

/-- The operation at the ordinal of a cause is one of the six gates (R112). -/
theorem stageInstr_mem_gates {ord : Fin 19} {c : Cause} (h : ord.val = gateOrdinal c) :
    stageInstr ord ∈ [Instr.lenchk, .pidlook, .shapeconf, .lzchk, .digchk, .ovfchk, .parse] := by
  obtain rfl : ord = Fin.ofNat 19 (gateOrdinal c) := Fin.ext (by
    have := gateOrdinal_le c
    rw [Fin.val_ofNat, Nat.mod_eq_of_lt (by omega), h])
  cases c <;> decide

/-- Settles O32: an operation of the chain rejects only as a gate, `PARSE` by the closed form, and no other instruction does. -/
theorem onlyGatesReject : Obligations.OnlyGatesReject := by
  intro i s t hbefore hexec hafter
  obtain ⟨ord, rfl⟩ | rfl | rfl | ⟨sh, hsh⟩ := instr_cases i
  · obtain ⟨o, -, hstage⟩ | ⟨-, hstage⟩ | ⟨c, u, hord, rfl, hwithin⟩ := stageMoves_stageInstr hexec
    · rw [hstage] at hafter; cases hafter
    · rw [hstage] at hafter; cases hafter
    · exact ⟨stageInstr_mem_gates hord, reject_ok u c, reject_res u c, fun _ => hwithin⟩
  · obtain ⟨hok, hres⟩ := execParse_of_doneReject hexec hafter
    exact ⟨by decide, hok, hres, fun hne => absurd rfl hne⟩
  · rw [exec_load, execLoad, Host.Outcome.next.injEq] at hexec
    rw [← hexec] at hafter
    exact absurd hafter hbefore
  · rw [exec_of_shape? s hsh, State.selectShape, advance_eq, Host.Outcome.next.injEq] at hexec
    rw [← hexec] at hafter
    cases hafter

/-- What the dispatcher, in one step, does to the stage index. -/
theorem dispatcher_stage {s t : State} {bm : BitVec 16} (hbm : s.txn.bm = some bm) (h : runOps dispatcherOps s = .next t) :
    t.txn.stage = .run 8 ∨ t.txn.stage = .doneReject := by
  by_cases hsh : ∃ sh : Shape, sh.wellFormed = true ∧ bm = shapeBitmap sh
  · obtain ⟨sh, hsh, heq⟩ := hsh
    rw [dispatcher_of_shape hbm hsh heq, State.selectShape, advance_eq, Host.Outcome.next.injEq] at h
    exact .inl (h ▸ rfl)
  · rw [dispatcher_of_no_shape hbm fun sh hwf heq => hsh ⟨sh, hwf, heq⟩] at h
    obtain ⟨u, c, heq⟩ := rejectBitmap_cases s bm
    rw [heq, Host.Outcome.next.injEq] at h
    exact .inr (h ▸ reject_stage u c)

theorem gateOrdinal_mem (c : Cause) : gateOrdinal c ∈ [0, 5, 6, 9, 12, 16] := by
  cases c <;> decide

theorem mem_gate_ordinals : ∀ ord : Fin 19, ord.val ∈ [0, 5, 6, 9, 12, 16] → ord ∈ [0, 5, 6, 9, 12, 16] := by
  decide

/-- Settles O55: one operation of the chain, or the dispatcher at stage 4. -/
theorem stageNeverDecreases : Obligations.StageNeverDecreases := by
  intro s t ord hstage hstep
  rw [step_of_runningOp hstage, runningOp] at hstep
  split at hstep
  next h =>
    obtain ⟨rfl, hrows, hbm⟩ := h
    obtain ⟨bm, hbm⟩ := Option.ne_none_iff_exists'.1 hbm
    obtain hrun | hreject := dispatcher_stage hbm hstep
    · exact .inl ⟨8, hrun, by decide⟩
    · exact .inr (.inr ⟨hreject, .inr ⟨rfl, hrows⟩⟩)
  next =>
    obtain ⟨o, ho, hrun⟩ | ⟨hlast, hdone⟩ | ⟨c, u, hord, rfl, -⟩ := stageMoves_stageInstr hstep
    · exact .inl ⟨o, hrun, Fin.lt_def.2 (by omega)⟩
    · exact .inr (.inl ⟨hdone, Fin.ext hlast⟩)
    · exact .inr (.inr ⟨reject_stage u c, .inl (mem_gate_ordinals ord (hord ▸ gateOrdinal_mem c))⟩)

/-! ## The build -/

/-- The parts of the state that no step changes (R7, R17). -/
def SameBuild (s t : State) : Prop :=
  t.lenW = s.lenW ∧ t.pipe.length = s.pipe.length ∧ t.byDecoder = s.byDecoder

theorem sameBuild_of_next {s t u : State} (hnext : Host.Outcome.next u = (.next t : Out)) (h : SameBuild s u) :
    SameBuild s t :=
  Host.Outcome.next.inj hnext ▸ h

/-- A step between transactions drops what the last one has left and carries out the host's act; only a clock cycle touches the
ranks, and it keeps their number. -/
theorem sameBuild_of_ready {s t : State} (hready : s.Ready) (hstep : step s = .next t) : SameBuild s t := by
  have hfetch := fetch_of_ready hready
  cases hreq : s.retire.requests with
  | nil =>
    rw [step_of_host (hfetch.trans (fetchRequest_nil hreq))] at hstep
    exact sameBuild_of_next hstep (by simp [SameBuild])
  | cons r rest =>
    cases r with
    | buffer bytes =>
      rw [step_of_host (hfetch.trans (fetchRequest_buffer hreq))] at hstep
      exact sameBuild_of_next hstep (by simp [SameBuild])
    | load =>
      rw [step_of_fetch_code (hfetch.trans (fetchRequest_load hreq)) (decode_encode .load), exec_load] at hstep
      exact sameBuild_of_next hstep (by simp [SameBuild])
    | drive bus n =>
      rw [step_of_host (hfetch.trans (fetchRequest_drive hreq))] at hstep
      exact sameBuild_of_next hstep (by simp [SameBuild])
    | present =>
      rw [step_of_host (hfetch.trans (fetchRequest_present hreq))] at hstep
      exact sameBuild_of_next hstep (by simp [SameBuild, State.present])
    | parse =>
      rw [step_of_fetch_code (hfetch.trans (fetchRequest_parse hreq)) (decode_encode .parse), exec_parse, execParse_eq] at hstep
      exact sameBuild_of_next hstep (by simp [SameBuild])
    | cycle rst v =>
      obtain ⟨ranks, k, hlen, hclock⟩ := clock_eq (s.retire.setRequests rest) rst v
      rw [step_of_host (hfetch.trans (fetchRequest_cycle hreq)), hclock] at hstep
      exact sameBuild_of_next hstep (by simp [SameBuild, hlen])

/-- Settles O34: a transaction in progress changes the transaction alone; between transactions, the host's acts one by one. -/
theorem buildNeverChanges : Obligations.BuildNeverChanges := by
  intro s t hstep
  obtain hready | ⟨ord, hstage⟩ := ready_or_run s
  · exact sameBuild_of_ready hready hstep
  · rw [step_frame hstage hstep]
    exact ⟨rfl, rfl, rfl⟩

/-! ## `LOAD` -/

/-- The window that `LOAD` leaves, byte by byte (R32). -/
theorem read_loadBytes {win : Memory} (hwf : Memory.wf 16 win = true) (buf : Memory) (n a : Nat) :
    Memory.read (Memory.writeFrom win 0 (loadBytes buf n)) a = if a < 16 then loadByte buf n a else Memory.read win a := by
  rw [Memory.read_writeFrom (bound := 16) _ hwf (by rw [loadBytes_length]), loadBytes_length]
  by_cases ha : a < 16
  · rw [if_pos ⟨Nat.zero_le a, by omega⟩, if_pos ha, loadBytes, Nat.sub_zero,
      List.getD_eq_getElem _ _ (by rwa [List.length_map, List.length_range]), List.getElem_map, List.getElem_range]
  · rw [if_neg (by omega), if_neg ha]

/-- Settles O35: the window is read back byte by byte. -/
theorem loadFillsWindow : Obligations.LoadFillsWindow := by
  intro s hwf
  refine ⟨Memory.writeFrom s.win 0 (loadBytes s.hostBuf s.hostLen), fun i hi => ?_, fun a ha => ?_, ?_⟩
  · rw [read_loadBytes hwf, if_pos hi, loadByte]
  · rw [read_loadBytes hwf, if_neg (by omega)]
  · rw [exec_load, execLoad, State.setLength, State.setWin, loadLength]

/-- The bytes that `LOAD` writes depend on the buffer only below n and below 15 (R32, R134). -/
theorem loadBytes_congr {buf buf' : Memory} {n : Nat} (h : ∀ i, i < n → i < 15 → Memory.read buf i = Memory.read buf' i) :
    loadBytes buf n = loadBytes buf' n := by
  refine List.map_congr_left fun i _ => ?_
  unfold loadByte
  split
  next hi => exact h i hi.1 hi.2
  next => rfl

/-- Settles O36: the two runs write the same bytes. -/
theorem loadNeverOverReads : Obligations.LoadNeverOverReads := by
  intro s buf h
  refine ⟨_, exec_load s, (exec_load _).trans ?_⟩
  rw [execLoad, loadBytes_congr h]
  rfl

end Sys2Proof.Machine
end

section
/-!
PROOFS of the family `other`, the outcome and the ports: the chain as a function and its builds (R97, R104, R114), the ports for `LAT` = 0
(R23, R105), and the ranks for `LAT` > 0 (R105, R130).
-/

namespace Sys2Proof.Machine

open Sys2Proof

/-! ## The chain as a function of its gates -/

/-- Six gates in the order of the chain, and the value behind them (R97, R114). -/
def gated (g : Cause → Bool) (v : BitVec 32) : Except Cause (BitVec 32) :=
  if g .len then
    if g .shapeHash then
      if g .shapeConfirm then
        if g .leadingZero then
          if g .digitRange then
            if g .overflow then .ok v else .error .overflow
          else .error .digitRange
        else .error .leadingZero
      else .error .shapeConfirm
    else .error .shapeHash
  else .error .len

/-- When all gates pass, the value comes through. -/
theorem gated_of_forall {g : Cause → Bool} (v : BitVec 32) (h : ∀ c, g c = true) : gated g v = .ok v := by
  simp only [gated, h, if_true]

/-- Where a gate fails and all earlier ones pass, its cause comes out. -/
theorem gated_of_first {g : Cause → Bool} (v : BitVec 32) {c : Cause} (hfail : g c = false)
    (hpass : ∀ c', gateOrdinal c' < gateOrdinal c → g c' = true) : gated g v = .error c := by
  cases c <;> simp (disch := decide) [gated, hfail, hpass]

/-- A gate that fails, wherever it stands, leaves no value. -/
theorem outcomeValue_gated (g : Cause → Bool) (v : BitVec 32) :
    outcomeValue (gated g v) = if causes.all g then some v else none := by
  unfold gated
  split_ifs <;> simp_all [causes, outcomeValue]

/-! The values of the chain as the operations give them, on any length. -/

/-- `PID` as the operations give it. -/
def chainPid (w : Window) (len : Nat) : Byte :=
  pidrom (hashCode (hashProduct (lenmaskValue (bitmaskValue (cmpsepValue w)) len)))

/-- `GL` as the operations give it. -/
def chainGl (w : Window) (len : Nat) : Lanes Byte := gatherValue w (descrom (chainPid w len))

/-- `DL` as the operations give it. -/
def chainDl (w : Window) (len : Nat) : Lanes Byte :=
  subzeroValue (canonValue (chainGl w len) (descrom (chainPid w len)))

/-- `S` as the operations give it. -/
def chainSums (w : Window) (len : Nat) : Vector (BitVec 16) 4 := foldValue (pairaddValue (wmulValue (chainDl w len)))

/-- The gates as the operations form them. -/
def chainGate (w : Window) (len : Nat) : Cause → Bool
  | .len => lengthOk len
  | .shapeHash => hashOk (chainPid w len)
  | .shapeConfirm => shapeOk (lenmaskValue (bitmaskValue (cmpsepValue w)) len) (chainPid w len)
  | .leadingZero => leadingOk (chainGl w len) (leadingLanes (descrom (chainPid w len)))
  | .digitRange => digitsOk (chainDl w len)
  | .overflow => sumsOk (chainSums w len)

theorem parseOutcome_eq_gated (w : Window) (len : Nat) :
    parseOutcome w len = gated (chainGate w len) (packValue (narrowValue (chainSums w len))) := rfl

section Short
variable {w : Window} {len : Nat} (h : len ≤ 15)
include h

theorem chainPid_eq : chainPid w len = refPid w len := by
  rw [chainPid, bitmaskValue_cmpsepValue, lenmaskValue_refRaw w h, hashCode_hashProduct, refPid]

theorem chainGl_eq : chainGl w len = refGl w len := by
  rw [chainGl, chainPid_eq h, ← gatherValue_refDesc, refDesc]

theorem chainDl_eq : chainDl w len = refDl w len := by
  rw [chainDl, chainGl_eq h, chainPid_eq h, ← subzeroValue_refCl, ← canonValue_refGl, refDesc]

theorem chainSums_eq : chainSums w len = foldValue (pairaddValue (wmulValue (refDl w len))) := by
  rw [chainSums, chainDl_eq h]

/-- On the lengths that G0 lets pass, the gates are the closed form's. -/
theorem chainGate_eq : chainGate w len = refGate w len := by
  funext c
  cases c with
  | len => exact refGate_len w len
  | shapeHash => rw [chainGate, chainPid_eq h, refGate_shapeHash]
  | shapeConfirm =>
    rw [chainGate, chainPid_eq h, bitmaskValue_cmpsepValue, lenmaskValue_refRaw w h, refGate_shapeConfirm]
  | leadingZero => rw [chainGate, chainGl_eq h, chainPid_eq h, ← refGate_leadingZero, refDesc]
  | digitRange => rw [chainGate, chainDl_eq h, refGate_digitRange]
  | overflow => rw [chainGate, chainSums_eq h, refGate_overflow]

end Short

theorem parseOutcome_of_none {w : Window} {len : Nat} (h : refCause w len = none) :
    parseOutcome w len = .ok (refResult w len) := by
  have hpass := (refCause_eq_none_iff w len).1 h
  have hlen := (refGate_len_iff w len).1 (hpass .len)
  have hsums := (refGate_overflow_iff w len).1 (hpass .overflow)
  rw [parseOutcome_eq_gated, chainGate_eq hlen, gated_of_forall _ hpass, chainSums_eq hlen, narrowValue_refSum hsums,
    packValue_refSum hsums]

theorem parseOutcome_of_some {w : Window} {len : Nat} {c : Cause} (h : refCause w len = some c) :
    parseOutcome w len = .error c := by
  obtain ⟨hfail, hpass⟩ := refCause_eq_some h
  rw [parseOutcome_eq_gated]
  by_cases hc : c = .len
  · subst hc
    exact gated_of_first _ hfail fun c' hlt => absurd hlt (Nat.not_lt_zero _)
  · have hlen := (refGate_len_iff w len).1 (hpass .len (Nat.pos_of_ne_zero fun hzero => hc (gateOrdinal_inj hzero)))
    rw [chainGate_eq hlen, gated_of_first _ hfail hpass]

/-- Settles O41: all gates pass, or the first that fails gives the cause. -/
theorem outcomeIsClosedForm : Obligations.OutcomeIsClosedForm := by
  intro w len
  split
  next h => exact parseOutcome_of_none h
  next c h => exact parseOutcome_of_some h

/-- What the caller sees, in the closed form. -/
theorem outcomeValue_parseOutcome (w : Window) (len : Nat) :
    outcomeValue (parseOutcome w len) = if refCause w len = none then some (refResult w len) else none := by
  cases h : refCause w len with
  | none => rw [parseOutcome_of_none h, if_pos rfl, outcomeValue]
  | some c => rw [parseOutcome_of_some h, if_neg nofun, outcomeValue]

/-- The parallel evaluation forms the same six gates and the same value (R104). -/
theorem parallelPorts_eq (w : Window) (len : Nat) :
    parallelPorts w len =
      (causes.all (chainGate w len),
        if causes.all (chainGate w len) then packValue (narrowValue (chainSums w len)) else 0) := by
  have hall : causes.all (chainGate w len) =
      (lengthOk len && hashOk (chainPid w len) &&
        shapeOk (lenmaskValue (bitmaskValue (cmpsepValue w)) len) (chainPid w len) &&
        leadingOk (chainGl w len) (leadingLanes (descrom (chainPid w len))) && digitsOk (chainDl w len) &&
        sumsOk (chainSums w len)) := by
    simp only [causes, List.all_cons, List.all_nil, Bool.and_true, Bool.and_assoc, chainGate]
  rw [hall]
  rfl

/-- The value and the presence of an outcome as the ports show them. -/
theorem gated_ports (g : Cause → Bool) (v : BitVec 32) :
    ((outcomeValue (gated g v)).isSome, (outcomeValue (gated g v)).getD 0) =
      (causes.all g, if causes.all g then v else 0) := by
  rw [outcomeValue_gated]
  cases causes.all g <;> rfl

/-- Settles O48: both builds show what the six gates and the value behind them give. -/
theorem parallelAgrees : Obligations.ParallelAgrees := by
  intro w len
  rw [parallelPorts_eq, ← gated_ports, ← parseOutcome_eq_gated]
  cases parseOutcome w len <;> rfl

/-! ## The ports for `LAT` = 0 -/

theorem portOutcome_of_nil {s : State} (h : s.pipe = []) :
    s.portOutcome = outcomeValue (parseOutcome (Memory.lanes s.win) s.length) := by
  rw [State.portOutcome, h, List.getLast?_nil]

theorem portOutcome_of_getLast? {s : State} {r : Rank} (h : s.pipe.getLast? = some r) :
    s.portOutcome = if r.valid then outcomeValue (parseOutcome r.w r.len) else none := by
  rw [State.portOutcome, h]

theorem portOutValid_of_getLast? {s : State} {r : Rank} (h : s.pipe.getLast? = some r) :
    s.portOutValid = some r.valid := by
  rw [State.portOutValid, h, Option.map_some]

theorem ports_of_portOutcome_none {s : State} (h : s.portOutcome = none) : s.portOk = false ∧ s.portResult = 0 := by
  rw [State.portOk, State.portResult, h]
  exact ⟨rfl, rfl⟩

/-- Settles O57: the ports show the closed form's outcome, and so do `OK` and `RES`. -/
theorem combinationalPorts : Obligations.CombinationalPorts := by
  intro s t hpipe hexec
  rw [exec_parse, execParse_eq, Host.Outcome.next.injEq] at hexec
  have hvalid : s.portOutValid = none := by rw [State.portOutValid, hpipe]; rfl
  rw [← hexec, State.setTxn_txn, State.portOk, State.portResult, portOutcome_of_nil hpipe, outcomeValue_parseOutcome]
  obtain ⟨hnone, -, hok, hres⟩ | ⟨hcause, -, hok, hres⟩ := refTxn_refStop_cases (Memory.lanes s.win) s.length
  · rw [if_pos hnone]
    exact ⟨hok, hres, hvalid⟩
  · rw [if_neg hcause]
    exact ⟨hok, hres, hvalid⟩

/-- Settles O58: both ports are views of one outcome, and a last rank that is not valid has none. -/
theorem absentResultIsZero : Obligations.AbsentResultIsZero := by
  intro s
  constructor
  · intro hok
    exact (ports_of_portOutcome_none (Option.not_isSome_iff_eq_none.1 (by rw [← State.portOk, hok]; decide))).2
  · intro hvalid
    obtain ⟨r, hlast, hr⟩ := Option.map_eq_some_iff.1 hvalid
    exact ports_of_portOutcome_none (by rw [portOutcome_of_getLast? hlast, hr]; rfl)

end Sys2Proof.Machine
end

section
/-!
PROOFS of the family `other`, the clocked ranks for `LAT` > 0 (R19, R105, R130, R133): what a cycle puts into the first rank moves on by
one rank a cycle, and a cycle with `rst` = 1 leaves no rank valid.
-/

namespace Sys2Proof.Machine

open Sys2Proof

/-! ## Runs put together -/

theorem run_add_of_next {s t : State} (a b : Nat) (h : Host.Core.run core a s = .next t) :
    Host.Core.run core (a + b) s = Host.Core.run core b t := by
  induction a generalizing s with
  | zero => rw [Nat.zero_add, ← Host.Outcome.next.inj h]
  | succ a ih =>
    have hsplit : Host.Core.run core (a + 1 + b) s = Host.Core.run core (a + b + 1) s := by rw [Nat.add_right_comm]
    rw [hsplit]
    cases hstep : step s with
    | next s' => exact (run_succ_of_next (a + b) hstep).trans (ih ((run_succ_of_next a hstep).symm.trans h))
    | fault f =>
      have hcore : core.step s = .fault f := hstep
      simp only [Host.Core.run, hcore] at h
      cases h
    | refused r =>
      have hcore : core.step s = .refused r := hstep
      simp only [Host.Core.run, hcore] at h
      cases h

/-! ## One clock cycle -/

/-- What one cycle of the host, driving the ports and raising `clk`, makes of a state with ranks (R23, R105, R130). -/
structure CycleDone (c : CycleIn) (s u : State) : Prop where
  ready : u.Ready
  win_wf : Memory.wf 16 s.win = true → Memory.wf 16 u.win = true
  ranks : u.pipe.length = s.pipe.length
  /-- with `rst` = 1 no rank is valid -/
  cleared : c.rst = true → ∀ r ∈ u.pipe, r.valid = false
  /-- with `rst` = 0 the ranks move on by one -/
  shifted : c.rst = false → ∃ r : Rank, u.pipe = (r :: s.pipe).dropLast ∧ r.valid = c.inValid ∧
    (c.inValid = true → Memory.wf 16 s.win = true → r.w = busLanes c.window ∧ r.len = c.length)

/-- The window that the host has driven is the one on the bus (R23, R42). -/
theorem lanes_writeFrom_busLanes {win : Memory} (hwf : Memory.wf 16 win = true) (bus : BitVec 128) :
    Memory.lanes (Memory.writeFrom win 0 (busLanes bus).toList) = busLanes bus := by
  refine Vector.ext fun i hi => ?_
  rw [Memory.lanes_get _ _ hi, Memory.read_writeFrom (bound := 16) _ hwf (by simp), if_pos (by simpa using hi),
    Nat.sub_zero, List.getD_eq_getElem _ _ (by simpa using hi), Vector.getElem_toList]

theorem clock_of_rst {s : State} (hpipe : s.pipe ≠ []) (v : Bool) :
    s.clock true v =
      s.setPipe ((List.range s.pipe.length).map fun i => Rank.unset (s.drawn + i)) (s.drawn + s.pipe.length) := by
  rw [State.clock, if_neg hpipe, if_pos rfl]

theorem clock_of_not_rst {s : State} (hpipe : s.pipe ≠ []) (v : Bool) :
    s.clock false v = s.setPipe ((s.sampled v :: s.pipe).dropLast) (if v then s.drawn else s.drawn + 1) := by
  rw [State.clock, if_neg hpipe, if_neg Bool.false_ne_true]

theorem sampled_valid (s : State) (v : Bool) : (s.sampled v).valid = v := by
  cases v <;> rfl

/-- The state after the host has driven the ports of a cycle, from a state with nothing in progress. -/
def State.driven (s : State) (c : CycleIn) (rest : List Request) : State :=
  (((s.retire.setRequests rest).setWin (Memory.writeFrom s.win 0 (busLanes c.window).toList)).setLength c.length)

theorem step_drive {s : State} {c : CycleIn} {rest : List Request} (hready : s.Ready)
    (hreq : s.requests = .drive c.window c.length :: rest) : step s = .next (s.driven c rest) :=
  step_of_host ((fetch_of_ready hready).trans (fetchRequest_drive (s := s.retire) hreq))

theorem step_cycle {s : State} {rst v : Bool} {rest : List Request} (hready : s.Ready)
    (hreq : s.requests = .cycle rst v :: rest) : step s = .next ((s.retire.setRequests rest).clock rst v) :=
  step_of_host ((fetch_of_ready hready).trans (fetchRequest_cycle (s := s.retire) hreq))

/-- One rising edge after the ports have been driven. -/
theorem cycleDone_clock {s u : State} {c : CycleIn} (hpipe : s.pipe ≠ []) (htxn : u.txn = Txn.empty)
    (hupipe : u.pipe = s.pipe) (hwin : u.win = Memory.writeFrom s.win 0 (busLanes c.window).toList)
    (hlen : u.length = c.length) : CycleDone c s (u.clock c.rst c.inValid) := by
  obtain ⟨ranks, k, hranks, hclock⟩ := clock_eq u c.rst c.inValid
  have hne : u.pipe ≠ [] := hupipe ▸ hpipe
  refine ⟨fun ord hstage => ?_, fun hwf => ?_, ?_, fun hrst r hr => ?_, fun hrst => ?_⟩
  · rw [hclock, State.setPipe_txn, htxn] at hstage
    cases hstage
  · rw [hclock, State.setPipe_win, hwin]
    exact Memory.wf_writeFrom _ hwf (by simp)
  · rw [hclock, State.setPipe_pipe, hranks, hupipe]
  · rw [hrst, clock_of_rst hne, State.setPipe_pipe] at hr
    obtain ⟨i, -, rfl⟩ := List.mem_map.1 hr
    rfl
  · refine ⟨u.sampled c.inValid, ?_, sampled_valid u c.inValid, fun hv hwf => ?_⟩
    · rw [hrst, clock_of_not_rst hne, State.setPipe_pipe, hupipe]
    · rw [hv, State.sampled, if_pos rfl]
      exact ⟨by rw [hwin, lanes_writeFrom_busLanes hwf], hlen⟩

/-- One cycle takes two steps: the ports are driven, then `clk` rises. -/
theorem run_cycle {s : State} {c : CycleIn} {rest : List CycleIn} (hready : s.Ready) (hpipe : s.pipe ≠ [])
    (hreq : s.requests = cycleRequests (c :: rest)) :
    ∃ u : State, Host.Core.run core 2 s = .next u ∧ u.requests = cycleRequests rest ∧ CycleDone c s u := by
  have hdrive := step_drive (c := c) (rest := .cycle c.rst c.inValid :: cycleRequests rest) hready hreq
  generalize hd : s.driven c (.cycle c.rst c.inValid :: cycleRequests rest) = d at hdrive
  have hdriven : d.Ready ∧ d.requests = .cycle c.rst c.inValid :: cycleRequests rest ∧ d.pipe = s.pipe ∧
      d.win = Memory.writeFrom s.win 0 (busLanes c.window).toList ∧ d.length = c.length := by
    subst hd
    refine ⟨fun ord h => ?_, ?_, ?_, ?_, ?_⟩
    · simp [State.driven, Txn.empty] at h
    all_goals simp [State.driven]
  obtain ⟨hdready, hdreq, hdpipe, hdwin, hdlen⟩ := hdriven
  have hclock := step_cycle hdready hdreq
  refine ⟨_, (run_succ_of_next 1 hdrive).trans (run_succ_of_next 0 hclock), ?_,
    cycleDone_clock hpipe rfl hdpipe hdwin hdlen⟩
  obtain ⟨ranks, k, -, heq⟩ := clock_eq (d.retire.setRequests (cycleRequests rest)) c.rst c.inValid
  rw [heq, State.setPipe_requests, State.setRequests_requests]

/-! ## Sequences of cycles -/

/-- Any sequence of cycles can be run, and leaves as many ranks. -/
theorem run_cycles (cs rest : List CycleIn) {s : State} (hready : s.Ready) (hpipe : s.pipe ≠ [])
    (hreq : s.requests = cycleRequests (cs ++ rest)) :
    ∃ u : State, Host.Core.run core (2 * cs.length) s = .next u ∧ u.Ready ∧ u.requests = cycleRequests rest ∧
      (Memory.wf 16 s.win = true → Memory.wf 16 u.win = true) ∧ u.pipe.length = s.pipe.length := by
  induction cs generalizing s with
  | nil => exact ⟨s, rfl, hready, hreq, id, rfl⟩
  | cons c cs ih =>
    obtain ⟨t, hrun, htreq, hdone⟩ := run_cycle hready hpipe hreq
    have htpipe : t.pipe ≠ [] := by
      rw [← List.length_pos_iff, hdone.ranks]
      exact List.length_pos_iff.2 hpipe
    obtain ⟨u, hrest, huready, hureq, hwf, hlen⟩ := ih hdone.ready htpipe htreq
    refine ⟨u, ?_, huready, hureq, hwf ∘ hdone.win_wf, hlen.trans hdone.ranks⟩
    rw [List.length_cons, Nat.mul_succ, Nat.add_comm]
    exact (run_add_of_next 2 _ hrun).trans hrest

/-- With `rst` = 0 what stands in a rank stands in the next one after the cycle. -/
theorem rank_shifted {c : CycleIn} {s u : State} {k : Nat} {r : Rank} (h : CycleDone c s u) (hrst : c.rst = false)
    (hk : k + 1 < s.pipe.length) (hr : s.pipe[k]? = some r) : u.pipe[k + 1]? = some r := by
  obtain ⟨r', hpipe, -⟩ := h.shifted hrst
  rw [hpipe, List.getElem?_dropLast, if_pos (by simpa using hk), List.getElem?_cons_succ, hr]

/-- What is said of a rank as it moves on: it is the rank `r`, or one that is not valid. -/
def RankAt (keep : Rank → Prop) (s : State) (k : Nat) : Prop := ∃ r, s.pipe[k]? = some r ∧ keep r

/-- A rank that is not valid is followed by one that is not valid, whatever the levels of the cycle. -/
theorem rankAt_invalid_next {c : CycleIn} {s u : State} {k : Nat} (h : CycleDone c s u) (hk : k + 1 < s.pipe.length)
    (hr : RankAt (fun r => r.valid = false) s k) : RankAt (fun r => r.valid = false) u (k + 1) := by
  cases hrst : c.rst with
  | false =>
    obtain ⟨r, hr, hvalid⟩ := hr
    exact ⟨r, rank_shifted h hrst hk hr, hvalid⟩
  | true =>
    have hlt : k + 1 < u.pipe.length := h.ranks ▸ hk
    exact ⟨_, List.getElem?_eq_getElem hlt, h.cleared hrst _ (List.getElem_mem hlt)⟩

/-- A property of a rank that every cycle of a sequence hands on to the next rank is handed on by the sequence. -/
theorem run_cycles_rankAt (keep : Rank → Prop) (cs : List CycleIn) {s : State} {k : Nat} (hready : s.Ready)
    (hnext : ∀ c ∈ cs, ∀ s u k, CycleDone c s u → k + 1 < s.pipe.length → RankAt keep s k → RankAt keep u (k + 1))
    (hreq : s.requests = cycleRequests cs) (hk : k + cs.length < s.pipe.length) (hr : RankAt keep s k) :
    ∃ u : State, Host.Core.run core (2 * cs.length) s = .next u ∧ u.pipe.length = s.pipe.length ∧
      RankAt keep u (k + cs.length) := by
  induction cs generalizing s k with
  | nil => exact ⟨s, rfl, rfl, hr⟩
  | cons c cs ih =>
    rw [List.length_cons] at hk
    have hpipe : s.pipe ≠ [] := List.length_pos_iff.1 (by omega)
    obtain ⟨t, hrun, htreq, hdone⟩ := run_cycle hready hpipe hreq
    have ht := hnext c List.mem_cons_self s t k hdone (by omega) hr
    obtain ⟨u, hrest, hlen, hu⟩ := ih hdone.ready (fun c' hc' => hnext c' (List.mem_cons_of_mem c hc')) htreq
      (by rw [hdone.ranks]; omega) ht
    refine ⟨u, ?_, hlen.trans hdone.ranks, ?_⟩
    · rw [List.length_cons, Nat.mul_succ, Nat.add_comm]
      exact (run_add_of_next 2 _ hrun).trans hrest
    · rwa [List.length_cons, Nat.add_comm cs.length 1, ← Nat.add_assoc]

/-- A cycle in the middle of a sequence: what comes before it only gives the state that it starts from, and what every later cycle
hands on stands in the last rank at the end. -/
theorem run_through_cycle (keep : Rank → Prop) {s : State} {before after : List CycleIn} {c : CycleIn} (hready : s.Ready)
    (hreq : s.requests = cycleRequests (before ++ c :: after)) (hlen : after.length < s.pipe.length)
    (hfirst : ∀ t u, (Memory.wf 16 s.win = true → Memory.wf 16 t.win = true) → t.pipe.length = s.pipe.length →
      CycleDone c t u → RankAt keep u (s.pipe.length - (after.length + 1)))
    (hnext : ∀ c ∈ after, ∀ s u k, CycleDone c s u → k + 1 < s.pipe.length → RankAt keep s k → RankAt keep u (k + 1)) :
    ∃ u r, Host.Core.run core (2 * (before.length + 1 + after.length)) s = .next u ∧ u.pipe.getLast? = some r ∧ keep r := by
  have hpipe : s.pipe ≠ [] := List.length_pos_iff.1 (by omega)
  obtain ⟨t, hrun, htready, htreq, hwf, htlen⟩ := run_cycles before (c :: after) hready hpipe hreq
  have htpipe : t.pipe ≠ [] := List.length_pos_iff.1 (by omega)
  obtain ⟨t', hrun', htreq', hdone⟩ := run_cycle htready htpipe htreq
  have hlen' : t'.pipe.length = s.pipe.length := hdone.ranks.trans htlen
  obtain ⟨u, hrest, hulen, r, hr, hkeep⟩ := run_cycles_rankAt keep after hdone.ready hnext htreq' (by omega)
    (hfirst t t' hwf htlen hdone)
  refine ⟨u, r, ?_, ?_, hkeep⟩
  · have hsteps : 2 * (before.length + 1 + after.length) = 2 * before.length + (2 + 2 * after.length) := by omega
    rw [hsteps]
    exact (run_add_of_next _ _ hrun).trans ((run_add_of_next 2 _ hrun').trans hrest)
  · rw [List.getLast?_eq_getElem?, ← hr]
    congr 1
    omega

/-! ## The statements about the clock -/

/-- The rank that a cycle which presents a transaction leaves at the entry; with `rst` = 1, or nothing presented, one that is not
valid (R30, R105, R130). -/
def Presented (c : CycleIn) (r : Rank) : Prop :=
  r.valid = (c.inValid && !c.rst) ∧ (r.valid = true → r.w = busLanes c.window ∧ r.len = c.length)

theorem presented_first_rank {c : CycleIn} {t u : State} (h : CycleDone c t u) (hwf : Memory.wf 16 t.win = true)
    (hpipe : 0 < t.pipe.length) : RankAt (Presented c) u 0 := by
  cases hrst : c.rst with
  | true =>
    have hlt : 0 < u.pipe.length := h.ranks ▸ hpipe
    have hinvalid := h.cleared hrst _ (List.getElem_mem hlt)
    exact ⟨_, List.getElem?_eq_getElem hlt, by rw [hinvalid, hrst, Bool.not_true, Bool.and_false],
      fun hvalid => by rw [hinvalid] at hvalid; cases hvalid⟩
  | false =>
    obtain ⟨r, hupipe, hvalid, hdata⟩ := h.shifted hrst
    refine ⟨r, ?_, by rw [hvalid, hrst, Bool.not_false, Bool.and_true], fun hr => hdata (hvalid ▸ hr) hwf⟩
    rw [hupipe, List.getElem?_dropLast, if_pos (by simpa using hpipe), List.getElem?_cons_zero]

/-- Settles O59: the rank that the cycle fills moves to the exit, where the outcome of its pair is shown. -/
theorem clockedDelivery : Obligations.ClockedDelivery := by
  intro s before after c hready hwf hreq hlen hrst
  obtain ⟨u, r, hrun, hlast, hvalid, hdata⟩ := run_through_cycle (Presented c) hready hreq (by omega)
    (fun t u htwf htlen hdone => by
      rw [hlen, Nat.sub_self]
      exact presented_first_rank hdone (htwf hwf) (by omega))
    (fun x hx s u k hdone hk ⟨r, hr, hkeep⟩ => ⟨r, rank_shifted hdone (hrst x hx) hk hr, hkeep⟩)
  refine ⟨u, hrun, by rw [portOutValid_of_getLast? hlast, hvalid], ?_⟩
  rw [portOutcome_of_getLast? hlast, hvalid]
  split
  next h =>
    obtain ⟨hw, hl⟩ := hdata (hvalid.trans h)
    rw [hw, hl]
  next => rfl

/-- Settles O60: from the last cycle with `rst` = 1 on, the rank that is to reach the exit is not valid. -/
theorem resetDiscardsInFlight : Obligations.ResetDiscardsInFlight := by
  intro s before after c hready hreq hlen ⟨x, hx, hrst⟩
  obtain ⟨mid, post, hsplit⟩ := List.append_of_mem hx
  have hlens : after.length + 1 = mid.length + (post.length + 1) := by
    simpa using congrArg List.length hsplit
  have hreq' : s.requests = cycleRequests ((before ++ mid) ++ x :: post) := by
    rw [hreq, hsplit, List.append_assoc]
  obtain ⟨u, r, hrun, hlast, hvalid⟩ := run_through_cycle (fun r => r.valid = false) hready hreq' (by omega)
    (fun t u _ htlen hdone => by
      have hlt : s.pipe.length - (post.length + 1) < u.pipe.length := by rw [hdone.ranks, htlen]; omega
      exact ⟨_, List.getElem?_eq_getElem hlt, hdone.cleared hrst _ (List.getElem_mem hlt)⟩)
    (fun _ _ _ _ _ hdone hk hr => rankAt_invalid_next hdone hk hr)
  have hsteps : 2 * (before.length + 1 + after.length) = 2 * ((before ++ mid).length + 1 + post.length) := by
    rw [List.length_append]
    omega
  rw [hsteps]
  refine ⟨u, hrun, by rw [portOutValid_of_getLast? hlast, hvalid], ports_of_portOutcome_none ?_⟩
  rw [portOutcome_of_getLast? hlast, hvalid]
  rfl

end Sys2Proof.Machine
end

section
/-!
PROOFS of the family `other`, the geometry of a shape: which lane takes which character (R49, R50), where the separators stand (R44), and
what a bitmap that equals a shape's says about the window (R43, R64, R76).
-/

namespace Sys2Proof.Machine

open Sys2Proof

/-! ## Groups and positions -/

/-- Position `k` of a text lies in group `g` of its shape (R44). -/
def InGroup (sh : Shape) (g : Fin 4) (k : Nat) : Prop :=
  shapeStart sh g ≤ k ∧ k < shapeStart sh g + shapeLen sh g

/-- Position `k` of a text is one of the three separators of its shape (R44). -/
def IsSep (sh : Shape) (k : Nat) : Prop :=
  ∃ g : Fin 4, g.val < 3 ∧ k = shapeStart sh g + shapeLen sh g

/-- The three separators, by the group that each ends. -/
theorem isSep_iff (sh : Shape) (k : Nat) :
    IsSep sh k ↔ k = sh.l0 ∨ k = sh.l0 + 1 + sh.l1 ∨ k = sh.l0 + 1 + sh.l1 + 1 + sh.l2 := by
  constructor
  · rintro ⟨g, hg, rfl⟩
    fin_cases g <;> simp [shapeStart, shapeLen] at hg ⊢
  · rintro (rfl | rfl | rfl)
    · exact ⟨0, by decide, by simp [shapeStart, shapeLen]⟩
    · exact ⟨1, by decide, by simp [shapeStart, shapeLen]⟩
    · exact ⟨2, by decide, by simp [shapeStart, shapeLen]⟩

/-- A position is in one of the groups exactly when it is below the length and no separator. -/
theorem exists_inGroup_iff (sh : Shape) (k : Nat) : (∃ g, InGroup sh g k) ↔ k < shapeTotal sh ∧ ¬IsSep sh k := by
  rw [isSep_iff]
  unfold InGroup shapeTotal
  constructor
  · rintro ⟨g, hlow, hhigh⟩
    fin_cases g <;> simp only [shapeStart, shapeLen] at hlow hhigh <;> omega
  · rintro ⟨hlt, hsep⟩
    obtain h | h | h | h : k < sh.l0 ∨ (sh.l0 < k ∧ k < sh.l0 + 1 + sh.l1) ∨
        (sh.l0 + 1 + sh.l1 < k ∧ k < sh.l0 + 1 + sh.l1 + 1 + sh.l2) ∨ sh.l0 + 1 + sh.l1 + 1 + sh.l2 < k := by omega
    · exact ⟨0, by simp only [shapeStart, shapeLen]; omega⟩
    · exact ⟨1, by simp only [shapeStart, shapeLen]; omega⟩
    · exact ⟨2, by simp only [shapeStart, shapeLen]; omega⟩
    · exact ⟨3, by simp only [shapeStart, shapeLen]; omega⟩

/-- The groups do not overlap. -/
theorem inGroup_unique {sh : Shape} {g g' : Fin 4} {k : Nat} (h : InGroup sh g k) (h' : InGroup sh g' k) : g = g' := by
  have hstart (a b : Fin 4) (hab : a < b) : shapeStart sh a + shapeLen sh a < shapeStart sh b := by
    fin_cases a <;> fin_cases b <;> simp [shapeStart, shapeLen] at hab ⊢ <;> omega
  obtain ⟨hlow, hhigh⟩ := h
  obtain ⟨hlow', hhigh'⟩ := h'
  obtain hlt | heq | hgt := lt_trichotomy g g'
  · have := hstart g g' hlt; omega
  · exact heq
  · have := hstart g' g hgt; omega

/-- In a legal shape a group has 1 to 3 characters, and all groups lie below position 15. -/
theorem shapeLen_bounds {sh : Shape} (h : sh.wellFormed = true) (g : Fin 4) :
    1 ≤ shapeLen sh g ∧ shapeLen sh g ≤ 3 ∧ shapeStart sh g + shapeLen sh g ≤ shapeTotal sh ∧ shapeTotal sh ≤ 15 := by
  obtain ⟨h0, h1, h2, h3⟩ := (shape_wellFormed_iff sh).1 h
  fin_cases g <;> simp only [shapeStart, shapeLen, shapeTotal] <;> omega

/-! ## The lanes of a group -/

/-- The lane of a group that holds the character `e` places before the group's last: ones, tens, hundreds (R49). -/
def placeLane (g : Fin 4) (e : Fin 3) : Fin 16 :=
  match e with
  | 0 => onesLane g
  | 1 => tensLane g
  | 2 => hundredsLane g

/-- Every lane is a place of a group, or spare. -/
theorem lane_cases : ∀ i : Fin 16, (∃ g e, i = placeLane g e) ∨ ∃ g, i = spareLane g := by
  decide

theorem selAt_eq_index_iff (k : Nat) (j : Fin 16) : selAt k = .index j ↔ k = j.val := by
  unfold selAt
  split
  · simp [Fin.ext_iff]
  · simp only [false_iff, reduceCtorEq]
    omega

theorem selAt_ne_miss {k : Nat} (h : k < 16) : selAt k ≠ .miss := by
  rw [selAt, dif_pos h]
  nofun

theorem shapeDescriptor_onesLane (sh : Shape) (g : Fin 4) :
    (shapeDescriptor sh)[onesLane g] = selAt (shapeStart sh g + shapeLen sh g - 1) := by
  obtain ⟨hrole, hgroup⟩ := laneRole_onesLane g
  rw [Fin.getElem_fin, shapeDescriptor, Vector.getElem_ofFn, Fin.eta]
  simp only [hrole, hgroup]

theorem shapeDescriptor_tensLane (sh : Shape) (g : Fin 4) :
    (shapeDescriptor sh)[tensLane g] =
      if shapeLen sh g ≥ 2 then selAt (shapeStart sh g + shapeLen sh g - 2) else .miss := by
  obtain ⟨hrole, hgroup⟩ := laneRole_tensLane g
  rw [Fin.getElem_fin, shapeDescriptor, Vector.getElem_ofFn, Fin.eta]
  simp only [hrole, hgroup]

theorem shapeDescriptor_hundredsLane (sh : Shape) (g : Fin 4) :
    (shapeDescriptor sh)[hundredsLane g] = if shapeLen sh g = 3 then selAt (shapeStart sh g) else .miss := by
  obtain ⟨hrole, hgroup⟩ := laneRole_hundredsLane g
  rw [Fin.getElem_fin, shapeDescriptor, Vector.getElem_ofFn, Fin.eta]
  simp only [hrole, hgroup]

theorem shapeDescriptor_spareLane (sh : Shape) (g : Fin 4) : (shapeDescriptor sh)[spareLane g] = .miss := by
  rw [Fin.getElem_fin, shapeDescriptor, Vector.getElem_ofFn, Fin.eta, (laneRole_spareLane g).1]

/-- The lane of a place takes the character at that place, when the group is long enough to have one (R50). -/
theorem shapeDescriptor_placeLane {sh : Shape} (h : sh.wellFormed = true) (g : Fin 4) (e : Fin 3) :
    (shapeDescriptor sh)[placeLane g e] =
      if e.val < shapeLen sh g then selAt (shapeStart sh g + shapeLen sh g - 1 - e.val) else .miss := by
  obtain ⟨hpos, hle, -⟩ := shapeLen_bounds h g
  match e with
  | 0 => exact (shapeDescriptor_onesLane sh g).trans (if_pos hpos).symm
  | 1 => exact shapeDescriptor_tensLane sh g
  | 2 =>
    refine (shapeDescriptor_hundredsLane sh g).trans ?_
    by_cases h3 : shapeLen sh g = 3
    · rw [if_pos h3, h3]
      rfl
    · rw [if_neg h3, if_neg]
      change ¬2 < shapeLen sh g
      omega

/-- A descriptor entry holds an index exactly in the lane of the character's place (R50). -/
theorem shapeDescriptor_eq_index_iff {sh : Shape} (h : sh.wellFormed = true) (i k : Fin 16) :
    (shapeDescriptor sh)[i] = .index k ↔
      ∃ g e, i = placeLane g e ∧ InGroup sh g k.val ∧ k.val + e.val + 1 = shapeStart sh g + shapeLen sh g := by
  constructor
  · intro hi
    obtain ⟨g, e, rfl⟩ | ⟨g, rfl⟩ := lane_cases i
    · rw [shapeDescriptor_placeLane h] at hi
      split at hi
      next hlt =>
        rw [selAt_eq_index_iff] at hi
        exact ⟨g, e, rfl, ⟨by omega, by omega⟩, by omega⟩
      next => cases hi
    · rw [shapeDescriptor_spareLane] at hi
      cases hi
  · rintro ⟨g, e, rfl, ⟨hlow, hhigh⟩, hk⟩
    rw [shapeDescriptor_placeLane h, if_pos (by omega), selAt_eq_index_iff]
    omega

/-- The descriptor of a legal shape has an index exactly where the text has a character of a group (R50). -/
theorem exists_shapeDescriptor_index_iff {sh : Shape} (h : sh.wellFormed = true) (k : Fin 16) :
    (∃ i : Fin 16, (shapeDescriptor sh)[i] = .index k) ↔ ∃ g, InGroup sh g k.val := by
  simp only [shapeDescriptor_eq_index_iff h]
  constructor
  · rintro ⟨i, g, e, -, hin, -⟩
    exact ⟨g, hin⟩
  · rintro ⟨g, hin⟩
    obtain ⟨hlow, hhigh⟩ := hin
    obtain ⟨-, hle, -⟩ := shapeLen_bounds h g
    exact ⟨_, g, ⟨shapeStart sh g + shapeLen sh g - 1 - k.val, by omega⟩, rfl, ⟨hlow, hhigh⟩, by simp only; omega⟩

/-- No separator, written out as the statements do. -/
theorem not_isSep_iff (sh : Shape) (k : Nat) :
    ¬IsSep sh k ↔ ∀ g : Fin 4, g.val < 3 → k ≠ shapeStart sh g + shapeLen sh g := by
  simp only [IsSep, not_exists, not_and, Ne]

/-- Settles O9: the indices by groups, and their lanes by places. -/
theorem descriptorCoversText : Obligations.DescriptorCoversText := by
  intro sh h
  refine ⟨fun k => ?_, fun i j k hi hj => ?_⟩
  · rw [exists_shapeDescriptor_index_iff h, exists_inGroup_iff, not_isSep_iff]
  · obtain ⟨g, e, rfl, hin, he⟩ := (shapeDescriptor_eq_index_iff h i k).1 hi
    obtain ⟨g', e', rfl, hin', he'⟩ := (shapeDescriptor_eq_index_iff h j k).1 hj
    obtain rfl := inGroup_unique hin hin'
    obtain rfl : e = e' := Fin.ext (by omega)
    rfl

/-! ## Bitmaps and separators -/

/-- The bitmap with the guard of a shape and those of its separators that `keep` keeps. -/
def sepBitmap (sh : Shape) (keep : Nat → Bool) : BitVec 16 :=
  BitVec.ofNat 16 (bitsValue (List.ofFn fun i : Fin 16 =>
    decide (i.val = shapeTotal sh) || (keep i.val && decide (i.val = sh.l0 ∨ i.val = sh.l0 + 1 + sh.l1 ∨
      i.val = sh.l0 + 1 + sh.l1 + 1 + sh.l2))))

/-- The valid bitmap of a legal shape keeps all three (R44). This evaluates the 81 shapes. -/
theorem shapeBitmap_eq_sepBitmap {sh : Shape} (h : sh.wellFormed = true) : shapeBitmap sh = sepBitmap sh fun _ => true := by
  have hall : ∀ p : Fin Config.nPat, shapeBitmap (pidShape p) = sepBitmap (pidShape p) fun _ => true := by decide
  have hp := hall ⟨shapePid sh, shapePid_lt h⟩
  rwa [pidShape_shapePid h] at hp

theorem sepBitmap_getLsbD (sh : Shape) (keep : Nat → Bool) (i : Fin 16) :
    (sepBitmap sh keep).getLsbD i.val = true ↔ i.val = shapeTotal sh ∨ keep i.val = true ∧ IsSep sh i.val := by
  rw [sepBitmap, BitVec.getLsbD_ofNat, bitsValue_testBit, decide_eq_true i.isLt, Bool.true_and,
    List.getD_eq_getElem _ _ (by rw [List.length_ofFn]; exact i.isLt), List.getElem_ofFn, isSep_iff]
  simp

/-- The bits of a legal shape's bitmap: the guard at the length, and the separators (R44). -/
theorem shapeBitmap_getLsbD {sh : Shape} (h : sh.wellFormed = true) (i : Fin 16) :
    (shapeBitmap sh).getLsbD i.val = true ↔ i.val = shapeTotal sh ∨ IsSep sh i.val := by
  rw [shapeBitmap_eq_sepBitmap h, sepBitmap_getLsbD]
  simp

/-- A separator stands below the length. -/
theorem IsSep.lt {sh : Shape} {k : Nat} (h : IsSep sh k) : k < shapeTotal sh := by
  rw [isSep_iff] at h
  unfold shapeTotal
  omega

/-- The window has "." exactly at the separators of a shape whose length is the text's (R43, R64). -/
def SepsOfShape (sh : Shape) (w : Window) (len : Nat) : Prop :=
  len = shapeTotal sh ∧ ∀ i : Fin 16, i.val < len → (w[i] = 0x2E ↔ IsSep sh i.val)

/-- Two bitmaps with the same bits are the same. -/
theorem bitmap_eq_of_getLsbD {x y : BitVec 16} (h : ∀ i : Fin 16, x.getLsbD i.val = true ↔ y.getLsbD i.val = true) : x = y :=
  BitVec.eq_of_getLsbD_eq fun i hi => Bool.eq_iff_iff.2 (h ⟨i, hi⟩)

theorem refBitmap_getLsbD_iff (w : Window) {len : Nat} (h : len ≤ 15) (i : Fin 16) :
    (refBitmap w len).getLsbD i.val = true ↔ (i.val < len ∧ w[i] = 0x2E) ∨ i.val = len := by
  rw [refBitmap_getLsbD w h, bitmapBit]
  split
  next hlt => simp [hlt, hlt.ne]
  next hge => simp [hge]

/-- The bitmap of a window is a legal shape's exactly when the length and the separators are the shape's (R43, R55). -/
theorem refBitmap_eq_shapeBitmap_iff {sh : Shape} (hsh : sh.wellFormed = true) (w : Window) {len : Nat} (h : len ≤ 15) :
    refBitmap w len = shapeBitmap sh ↔ SepsOfShape sh w len := by
  have htotal : shapeTotal sh ≤ 15 := (shapeLen_bounds hsh 0).2.2.2
  constructor
  · intro heq
    have hbits : ∀ i : Fin 16, ((i.val < len ∧ w[i] = 0x2E) ∨ i.val = len) ↔ (i.val = shapeTotal sh ∨ IsSep sh i.val) :=
      fun i => by rw [← refBitmap_getLsbD_iff w h, ← shapeBitmap_getLsbD hsh, heq]
    have hle : len ≤ shapeTotal sh := by
      obtain hguard | hsep := (hbits ⟨len, by omega⟩).1 (.inr rfl)
      · exact le_of_eq hguard
      · exact hsep.lt.le
    have hge : shapeTotal sh ≤ len := by
      obtain hlow | hguard := (hbits ⟨shapeTotal sh, by omega⟩).2 (.inl rfl)
      · exact hlow.1.le
      · exact le_of_eq hguard
    obtain rfl : len = shapeTotal sh := le_antisymm hle hge
    refine ⟨rfl, fun i hi => ?_⟩
    have hi' := hbits i
    simpa [hi, hi.ne] using hi'
  · rintro ⟨rfl, hseps⟩
    refine bitmap_eq_of_getLsbD fun i => ?_
    rw [refBitmap_getLsbD_iff w h, shapeBitmap_getLsbD hsh]
    constructor
    · rintro (⟨hlt, hw⟩ | hguard)
      · exact .inr ((hseps i hlt).1 hw)
      · exact .inl hguard
    · rintro (hguard | hsep)
      · exact .inr hguard
      · exact .inl ⟨hsep.lt, (hseps i hsep.lt).2 hsep⟩

/-- What the gates G0, G1 and G2 confirm: a legal shape, whose separators the window has and whose descriptor is selected (R64). -/
theorem exists_shape_of_gates {w : Window} {len : Nat} (h0 : refGate w len .len = true) (h1 : refGate w len .shapeHash = true)
    (h2 : refGate w len .shapeConfirm = true) :
    ∃ sh : Shape, sh.wellFormed = true ∧ refBitmap w len = shapeBitmap sh ∧ SepsOfShape sh w len ∧
      refDesc w len = shapeDescriptor sh := by
  rw [refGate_len_iff] at h0
  rw [refGate_shapeHash_iff] at h1
  rw [refGate_shapeConfirm_iff, xbmrom_of_lt h1] at h2
  have hwf := pidShape_wellFormed h1
  exact ⟨_, hwf, h2, (refBitmap_eq_shapeBitmap_iff hwf w h0).1 h2, descrom_of_lt h1⟩

/-- Settles O43: the indices are the characters of the groups, and the rest are the separators. -/
theorem confirmedShapeGathersText : Obligations.ConfirmedShapeGathersText := by
  intro w len h0 h1 h2 k
  obtain ⟨sh, hwf, -, ⟨rfl, hseps⟩, hdesc⟩ := exists_shape_of_gates h0 h1 h2
  rw [hdesc, exists_shapeDescriptor_index_iff hwf, exists_inGroup_iff]
  exact and_congr_right fun hlt => (hseps k hlt).symm.not

end Sys2Proof.Machine
end

section
/-!
PROOFS of the family `other`, the accepted language (R40, R100): a group passes the gates G3, G4 and G5 exactly when its characters are
an octet of the grammar, with the group's sum as value; and a text is a literal exactly when it has the separators of a legal shape and
an octet in each group.
-/

namespace Sys2Proof.Machine

open Sys2Proof

/-! ## Characters of the window -/

/-- Character `k` of the window, 0x00 beyond it. -/
def charAt (w : Window) (k : Nat) : Byte := laneByte w (selAt k)

theorem charAt_of_lt (w : Window) {k : Nat} (h : k < 16) : charAt w k = w[k] := by
  rw [charAt, selAt, dif_pos h, laneByte_index]
  rfl

/-- The value of a character as `SUBZERO` gives it: modulo 256, so that a character below "0" is no digit (R82). -/
def digitOf (b : Byte) : Nat := (b.toNat + 0xD0) % 256

theorem isDigit_iff (b : Byte) : isDigit b = true ↔ digitOf b ≤ 9 := by
  have hb := b.isLt
  rw [isDigit, decide_eq_true_iff, digitOf]
  omega

theorem digitValue_eq {b : Byte} (h : digitOf b ≤ 9) : digitValue b = digitOf b := by
  have hb := b.isLt
  rw [digitOf] at h
  rw [digitValue, digitOf]
  omega

/-- A digit is not the separator (R41). -/
theorem ne_sep_of_digit {b : Byte} (h : digitOf b ≤ 9) : b ≠ 0x2E := by
  rintro rfl
  revert h
  decide

theorem eq_zero_iff_digitOf (b : Byte) : b = 0x30 ↔ digitOf b = 0 := by
  have hb := b.isLt
  rw [← BitVec.toNat_inj, digitOf]
  change b.toNat = 48 ↔ _
  omega

/-! ## Octets (R40) -/

theorem octetValue_one (x : Byte) (v : Nat) : octetValue [x] = some v ↔ digitOf x ≤ 9 ∧ v = digitOf x := by
  rw [octetValue]
  split
  next h =>
    have hx := (isDigit_iff x).1 h
    rw [Option.some_inj, digitValue_eq hx]
    exact ⟨fun he => ⟨hx, he.symm⟩, fun he => he.2.symm⟩
  next h =>
    rw [isDigit_iff] at h
    exact ⟨nofun, fun he => absurd he.1 h⟩

theorem octetValue_two (x y : Byte) (v : Nat) :
    octetValue [x, y] = some v ↔
      (digitOf x ≤ 9 ∧ digitOf y ≤ 9) ∧ x ≠ 0x30 ∧ v = 10 * digitOf x + digitOf y := by
  rw [octetValue]
  split
  next h =>
    obtain ⟨hx, hne, hy⟩ := h
    rw [isDigit_iff] at hx hy
    rw [Option.some_inj, digitValue_eq hx, digitValue_eq hy]
    exact ⟨fun he => ⟨⟨hx, hy⟩, hne, he.symm⟩, fun he => he.2.2.symm⟩
  next h =>
    rw [isDigit_iff, isDigit_iff] at h
    exact ⟨nofun, fun ⟨⟨hx, hy⟩, hne, _⟩ => absurd ⟨hx, hne, hy⟩ h⟩

/-- Three characters: the grammar's three alternatives are the numbers from 100 to 255 (R40). -/
theorem octetValue_three (x y z : Byte) (v : Nat) :
    octetValue [x, y, z] = some v ↔
      (digitOf x ≤ 9 ∧ digitOf y ≤ 9 ∧ digitOf z ≤ 9) ∧ x ≠ 0x30 ∧ v = 100 * digitOf x + 10 * digitOf y + digitOf z ∧
        v ≤ 255 := by
  have hx := x.isLt
  have hy := y.isLt
  have hz := z.isLt
  have h1 : x = 0x31 ↔ x.toNat = 0x31 := BitVec.toNat_inj.symm
  have h2 : x = 0x32 ↔ x.toNat = 0x32 := BitVec.toNat_inj.symm
  have h0 : x = 0x30 ↔ x.toNat = 0x30 := BitVec.toNat_inj.symm
  have h5 : y = 0x35 ↔ y.toNat = 0x35 := BitVec.toNat_inj.symm
  simp only [octetValue, h1, h2, h0, h5, isDigit, decide_eq_true_eq, digitValue, digitOf, Ne]
  split_ifs <;> simp only [Option.some_inj, false_iff] <;> omega

/-! ## A group of the window -/

/-- The value of a group of `l` characters from character `s` on, by places (R54). -/
def groupSum (w : Window) (s l : Nat) : Nat :=
  match l with
  | 1 => digitOf (charAt w s)
  | 2 => 10 * digitOf (charAt w s) + digitOf (charAt w (s + 1))
  | 3 => 100 * digitOf (charAt w s) + 10 * digitOf (charAt w (s + 1)) + digitOf (charAt w (s + 2))
  | _ => 0

/-- What the gates G3, G4 and G5 ask of a group (R79, R83, R89). -/
def GroupPasses (w : Window) (s l : Nat) : Prop :=
  (2 ≤ l → charAt w s ≠ 0x30) ∧ (∀ j, j < l → digitOf (charAt w (s + j)) ≤ 9) ∧ groupSum w s l ≤ 255

theorem forall_lt_one_iff {p : Nat → Prop} : (∀ j, j < 1 → p j) ↔ p 0 := by
  simp

theorem forall_lt_two_iff {p : Nat → Prop} : (∀ j, j < 2 → p j) ↔ p 0 ∧ p 1 := by
  rw [Nat.forall_lt_succ_right (n := 1), forall_lt_one_iff]

theorem forall_lt_three_iff {p : Nat → Prop} : (∀ j, j < 3 → p j) ↔ p 0 ∧ p 1 ∧ p 2 := by
  rw [Nat.forall_lt_succ_right (n := 2), forall_lt_two_iff, and_assoc]

/-- The gates accept a group exactly when its text is an octet, whose value is the group's sum (R40, R79, R83, R89). -/
theorem octetValue_eq_some_iff (w : Window) (s : Nat) {l v : Nat} (hpos : 1 ≤ l) (hle : l ≤ 3) :
    octetValue ((List.range l).map fun j => charAt w (s + j)) = some v ↔ GroupPasses w s l ∧ v = groupSum w s l := by
  rw [GroupPasses, Ne, eq_zero_iff_digitOf]
  obtain rfl | rfl | rfl : l = 1 ∨ l = 2 ∨ l = 3 := by omega
  · change octetValue [charAt w s] = some v ↔ _
    simp only [octetValue_one, forall_lt_one_iff, groupSum, Nat.add_zero]
    omega
  · change octetValue [charAt w s, charAt w (s + 1)] = some v ↔ _
    simp only [octetValue_two, forall_lt_two_iff, groupSum, Nat.add_zero, Ne, eq_zero_iff_digitOf]
    omega
  · change octetValue [charAt w s, charAt w (s + 1), charAt w (s + 2)] = some v ↔ _
    simp only [octetValue_three, forall_lt_three_iff, groupSum, Nat.add_zero, Ne, eq_zero_iff_digitOf]
    omega

/-! ## The lanes of a confirmed shape -/

section Confirmed
variable {sh : Shape} {w : Window} {len : Nat} (hsh : sh.wellFormed = true) (hdesc : refDesc w len = shapeDescriptor sh)

/-- A lane of `DL` in the closed form: the digit of the gathered character, or 0 (R77, R81, R82). -/
theorem refDl_getElem_toNat (w : Window) (len : Nat) (i : Fin 16) :
    (refDl w len)[i].toNat = if (refDesc w len)[i] = .miss then 0 else digitOf (refGl w len)[i] := by
  rw [← subzeroValue_refCl, subzeroValue_toNat, ← canonValue_refGl, canonValue_getElem_fin]
  split
  · rfl
  · rfl

include hdesc in
theorem refDl_spareLane (g : Fin 4) : (refDl w len)[spareLane g].toNat = 0 := by
  rw [refDl_getElem_toNat, hdesc, shapeDescriptor_spareLane, if_pos rfl]

include hsh hdesc

/-- The lane of a place gathers the character at that place (R75). -/
theorem refGl_placeLane (g : Fin 4) (e : Fin 3) (he : e.val < shapeLen sh g) :
    (refGl w len)[placeLane g e] = charAt w (shapeStart sh g + shapeLen sh g - 1 - e.val) := by
  rw [← gatherValue_refDesc, Fin.getElem_fin, gatherValue_get, ← Fin.getElem_fin, hdesc, shapeDescriptor_placeLane hsh,
    if_pos he, charAt]

theorem refDesc_placeLane_eq_miss_iff (g : Fin 4) (e : Fin 3) :
    (refDesc w len)[placeLane g e] = .miss ↔ ¬e.val < shapeLen sh g := by
  obtain ⟨hpos, hle, hend, htotal⟩ := shapeLen_bounds hsh g
  rw [hdesc, shapeDescriptor_placeLane hsh]
  split
  next h => simp only [h, not_true_eq_false, iff_false]; exact selAt_ne_miss (by omega)
  next h => simp only [h, not_false_eq_true]

/-- The lane of a place holds the digit at that place, and 0 where the group has no such place (R82). -/
theorem refDl_placeLane (g : Fin 4) (e : Fin 3) :
    (refDl w len)[placeLane g e].toNat =
      if e.val < shapeLen sh g then digitOf (charAt w (shapeStart sh g + shapeLen sh g - 1 - e.val)) else 0 := by
  rw [refDl_getElem_toNat]
  by_cases he : e.val < shapeLen sh g
  · rw [if_neg fun hmiss => (refDesc_placeLane_eq_miss_iff hsh hdesc g e).1 hmiss he, if_pos he,
      refGl_placeLane hsh hdesc g e he]
  · rw [if_pos ((refDesc_placeLane_eq_miss_iff hsh hdesc g e).2 he), if_neg he]

/-- A group's sum is the value of its characters (R54, R88). -/
theorem refSum_eq_groupSum (g : Fin 4) : refSum w len g = groupSum w (shapeStart sh g) (shapeLen sh g) := by
  obtain ⟨hpos, hle, -⟩ := shapeLen_bounds hsh g
  have hones := refDl_placeLane hsh hdesc g 0
  have htens := refDl_placeLane hsh hdesc g 1
  have hhundreds := refDl_placeLane hsh hdesc g 2
  change (refDl w len)[placeLane g 0].toNat + 10 * (refDl w len)[placeLane g 1].toNat +
    100 * (refDl w len)[placeLane g 2].toNat = _
  rw [hones, htens, hhundreds]
  obtain h | h | h : shapeLen sh g = 1 ∨ shapeLen sh g = 2 ∨ shapeLen sh g = 3 := by omega
  · rw [h]
    simp [groupSum]
  · rw [h]
    simp [groupSum]
    omega
  · rw [h]
    simp [groupSum]
    omega

/-- G4 asks that every character of every group is a digit (R83). -/
theorem refGate_digitRange_iff_groups :
    refGate w len .digitRange = true ↔ ∀ g j, j < shapeLen sh g → digitOf (charAt w (shapeStart sh g + j)) ≤ 9 := by
  rw [refGate_digitRange_iff]
  constructor
  · intro h g j hj
    obtain ⟨hpos, hle, -⟩ := shapeLen_bounds hsh g
    have hlane := h (placeLane g ⟨shapeLen sh g - 1 - j, by omega⟩)
    rw [refDl_placeLane hsh hdesc, if_pos (by simp only; omega)] at hlane
    have hplace : shapeStart sh g + shapeLen sh g - 1 - (shapeLen sh g - 1 - j) = shapeStart sh g + j := by omega
    rwa [hplace] at hlane
  · intro h i
    obtain ⟨g, e, rfl⟩ | ⟨g, rfl⟩ := lane_cases i
    · rw [refDl_placeLane hsh hdesc]
      split
      next he =>
        have hplace : shapeStart sh g + shapeLen sh g - 1 - e.val = shapeStart sh g + (shapeLen sh g - 1 - e.val) := by omega
        rw [hplace]
        exact h g _ (by omega)
      next => exact Nat.zero_le 9
    · rw [refDl_spareLane hdesc]
      exact Nat.zero_le 9

/-- The lane under the leading-zero check is that of a group's first character, when the group has more than one (R79). -/
theorem checkedLane_eq_placeLane (g : Fin 4) (i : Fin 16) :
    checkedLane (refDesc w len) g = some i ↔
      ∃ e : Fin 3, i = placeLane g e ∧ 2 ≤ shapeLen sh g ∧ e.val + 1 = shapeLen sh g := by
  obtain ⟨hpos, hle, -⟩ := shapeLen_bounds hsh g
  have hhundreds := refDesc_placeLane_eq_miss_iff hsh hdesc g 2
  have htens := refDesc_placeLane_eq_miss_iff hsh hdesc g 1
  change (refDesc w len)[hundredsLane g] = .miss ↔ ¬2 < shapeLen sh g at hhundreds
  change (refDesc w len)[tensLane g] = .miss ↔ ¬1 < shapeLen sh g at htens
  rw [checkedLane_eq_some_iff, Ne, Ne, hhundreds, htens]
  constructor
  · rintro (⟨rfl, h3⟩ | ⟨rfl, h3, h2⟩)
    · exact ⟨2, rfl, by omega, by simp only [Fin.val_two]; omega⟩
    · exact ⟨1, rfl, by omega, by simp only [Fin.val_one]; omega⟩
  · rintro ⟨e, rfl, h2, he⟩
    match e with
    | 0 => simp only [Fin.val_zero] at he; omega
    | 1 => exact .inr ⟨rfl, by simp only [Fin.val_one] at he; omega, by omega⟩
    | 2 => exact .inl ⟨rfl, by simp only [Fin.val_two] at he; omega⟩

/-- G3 asks that no group of more than one character begins with "0" (R79). -/
theorem refGate_leadingZero_iff_groups :
    refGate w len .leadingZero = true ↔ ∀ g, 2 ≤ shapeLen sh g → charAt w (shapeStart sh g) ≠ 0x30 := by
  rw [refGate_leadingZero_iff]
  simp only [checkedLane_eq_placeLane hsh hdesc]
  constructor
  · intro h g h2
    obtain ⟨hpos, hle, -⟩ := shapeLen_bounds hsh g
    have hlane := h g _ ⟨⟨shapeLen sh g - 1, by omega⟩, rfl, h2, by simp only; omega⟩
    rw [refGl_placeLane hsh hdesc g _ (by simp only; omega)] at hlane
    have hplace : shapeStart sh g + shapeLen sh g - 1 - (shapeLen sh g - 1) = shapeStart sh g := by omega
    rwa [hplace] at hlane
  · rintro h g i ⟨e, rfl, h2, he⟩
    rw [refGl_placeLane hsh hdesc g e (by omega)]
    have hplace : shapeStart sh g + shapeLen sh g - 1 - e.val = shapeStart sh g := by omega
    rw [hplace]
    exact h g h2

/-- The last three gates together, group by group. -/
theorem refGates_iff_groups :
    (refGate w len .leadingZero = true ∧ refGate w len .digitRange = true ∧ refGate w len .overflow = true) ↔
      ∀ g, GroupPasses w (shapeStart sh g) (shapeLen sh g) := by
  rw [refGate_leadingZero_iff_groups hsh hdesc, refGate_digitRange_iff_groups hsh hdesc, refGate_overflow_iff]
  simp only [refSum_eq_groupSum hsh hdesc]
  exact ⟨fun ⟨h3, h4, h5⟩ g => ⟨h3 g, h4 g, h5 g⟩, fun h => ⟨fun g => (h g).1, fun g => (h g).2.1, fun g => (h g).2.2⟩⟩

end Confirmed

/-- The separators of a legal shape select the shape's descriptor (R50, R69). -/
theorem refDesc_of_seps {sh : Shape} {w : Window} {len : Nat} (hsh : sh.wellFormed = true) (hlen : len ≤ 15)
    (hseps : SepsOfShape sh w len) : refDesc w len = shapeDescriptor sh := by
  rw [refDesc, refPid, (refBitmap_eq_shapeBitmap_iff hsh w hlen).2 hseps, descrom_pidrom_shapeBitmap hsh]

/-- The chain accepts exactly the windows of a legal shape whose groups all pass (R97). -/
theorem refCause_eq_none_iff_groups (w : Window) (len : Nat) :
    refCause w len = none ↔
      len ≤ 15 ∧ ∃ sh : Shape, sh.wellFormed = true ∧ SepsOfShape sh w len ∧
        ∀ g, GroupPasses w (shapeStart sh g) (shapeLen sh g) := by
  rw [refCause_eq_none_iff]
  constructor
  · intro hpass
    obtain ⟨sh, hsh, -, hseps, hdesc⟩ := exists_shape_of_gates (hpass .len) (hpass .shapeHash) (hpass .shapeConfirm)
    exact ⟨(refGate_len_iff w len).1 (hpass .len), sh, hsh, hseps,
      (refGates_iff_groups hsh hdesc).1 ⟨hpass _, hpass _, hpass _⟩⟩
  · rintro ⟨hlen, sh, hsh, hseps, hgroups⟩
    have hbm := (refBitmap_eq_shapeBitmap_iff hsh w hlen).2 hseps
    obtain ⟨h3, h4, h5⟩ := (refGates_iff_groups hsh (refDesc_of_seps hsh hlen hseps)).2 hgroups
    intro c
    cases c with
    | len => exact (refGate_len_iff w len).2 hlen
    | shapeHash =>
      rw [refGate_shapeHash_iff, refPid, hbm]
      exact pidrom_refHash_shapeBitmap_lt hsh
    | shapeConfirm => rw [refGate_shapeConfirm_iff, refPid, hbm, xbmrom_pidrom_shapeBitmap hsh]
    | leadingZero => exact h3
    | digitRange => exact h4
    | overflow => exact h5

end Sys2Proof.Machine
end

section
/-!
PROOFS of the family `other`, end to end: `PARSE` accepts the literals and no other text (R100), does not depend on the window beyond the
length (R101), and, after `LOAD`, decides every byte sequence (R99), the text of every value among them (R103).
-/

namespace Sys2Proof.Machine

open Sys2Proof

/-! ## Texts and groups -/

/-- The part of a text that a shape gives to group `g` (R44). -/
def groupText (text : List Byte) (sh : Shape) (g : Fin 4) : List Byte :=
  (text.drop (shapeStart sh g)).take (shapeLen sh g)

/-- The text of a length: the window's characters below it (R40). -/
def windowText (w : Window) (len : Nat) : List Byte := w.toList.take len

theorem windowText_length (w : Window) {len : Nat} (h : len ≤ 15) : (windowText w len).length = len := by
  rw [windowText, List.length_take, Vector.length_toList]
  omega

theorem windowText_getElem (w : Window) {len k : Nat} (h : k < (windowText w len).length) :
    (windowText w len)[k] = charAt w k := by
  have hk : k < 16 := by
    rw [windowText, List.length_take, Vector.length_toList] at h
    omega
  simp only [windowText, List.getElem_take, Vector.getElem_toList, charAt_of_lt w hk]

/-- A group of the text, character by character. -/
theorem groupText_windowText (w : Window) {len : Nat} (h : len ≤ 15) {sh : Shape} {g : Fin 4}
    (hend : shapeStart sh g + shapeLen sh g ≤ len) :
    groupText (windowText w len) sh g = (List.range (shapeLen sh g)).map fun j => charAt w (shapeStart sh g + j) := by
  have hlen := windowText_length w h
  refine List.ext_getElem ?_ fun j _ _ => ?_
  · rw [groupText, List.length_take, List.length_drop, hlen, List.length_map, List.length_range]
    omega
  · simp only [groupText, List.getElem_take, List.getElem_drop, windowText_getElem, List.getElem_map, List.getElem_range]

/-- A text parts at a separator. -/
theorem take_sep_drop {t : List Byte} {n : Nat} {b : Byte} (h : n < t.length) (hb : t[n] = b) :
    t = t.take n ++ ([b] ++ t.drop (n + 1)) := by
  rw [← hb, List.singleton_append, ← List.drop_eq_getElem_cons h, List.take_append_drop]

/-- A text with the length and the separators of a shape is its groups, joined by ".". -/
theorem join_groupText {text : List Byte} {sh : Shape} (hlen : text.length = shapeTotal sh)
    (hseps : ∀ k (h : k < text.length), IsSep sh k → text[k] = 0x2E) :
    text = groupText text sh 0 ++ [0x2E] ++ groupText text sh 1 ++ [0x2E] ++ groupText text sh 2 ++ [0x2E] ++
      groupText text sh 3 := by
  have htotal : text.length = sh.l0 + 1 + sh.l1 + 1 + sh.l2 + 1 + sh.l3 := by rw [hlen, shapeTotal]; omega
  have h0 := take_sep_drop (t := text) (n := sh.l0) (by omega) (hseps _ (by omega) ((isSep_iff _ _).2 (.inl rfl)))
  have h1 := take_sep_drop (t := text.drop (sh.l0 + 1)) (n := sh.l1) (b := 0x2E) (by rw [List.length_drop]; omega)
    (by rw [List.getElem_drop]; exact hseps _ (by omega) ((isSep_iff _ _).2 (.inr (.inl rfl))))
  have h2 := take_sep_drop (t := text.drop (sh.l0 + 1 + sh.l1 + 1)) (n := sh.l2) (b := 0x2E)
    (by rw [List.length_drop]; omega)
    (by rw [List.getElem_drop]; exact hseps _ (by omega) ((isSep_iff _ _).2 (.inr (.inr rfl))))
  have h3 : text.drop (sh.l0 + 1 + sh.l1 + 1 + sh.l2 + 1) = groupText text sh 3 :=
    (List.take_of_length_le (by simp only [List.length_drop, shapeLen]; omega)).symm
  rw [List.drop_drop, ← Nat.add_assoc] at h1 h2
  calc text
      = text.take sh.l0 ++ ([0x2E] ++ ((text.drop (sh.l0 + 1)).take sh.l1 ++ ([0x2E] ++
          ((text.drop (sh.l0 + 1 + sh.l1 + 1)).take sh.l2 ++ ([0x2E] ++
            text.drop (sh.l0 + 1 + sh.l1 + 1 + sh.l2 + 1)))))) := by rw [← h2, ← h1, ← h0]
    _ = _ := by
      rw [h3]
      simp only [groupText, shapeStart, shapeLen, List.drop_zero, List.append_assoc]

/-- The part of a text between a beginning and an end. -/
theorem take_drop_append {text pre t post : List Byte} {s l : Nat} (htext : text = pre ++ (t ++ post)) (hs : pre.length = s)
    (hl : t.length = l) : (text.drop s).take l = t := by
  subst htext hs hl
  rw [List.drop_left, List.take_left]

/-- The character between a beginning and an end. -/
theorem getElem_append_cons {text pre post : List Byte} {b : Byte} {k : Nat} (h : k < text.length)
    (htext : text = pre ++ (b :: post)) (hk : pre.length = k) : text[k] = b := by
  subst htext hk
  rw [List.getElem_append_right le_rfl]
  simp only [Nat.sub_self, List.getElem_cons_zero]

/-- Four parts joined by ".". -/
def joined (ta tb tc td : List Byte) : List Byte := ta ++ [0x2E] ++ tb ++ [0x2E] ++ tc ++ [0x2E] ++ td

section Joined
variable {ta tb tc td : List Byte} {sh : Shape} (ha : ta.length = sh.l0) (hb : tb.length = sh.l1) (hc : tc.length = sh.l2)
  (hd : td.length = sh.l3)
include ha hb hc hd

theorem joined_length : (joined ta tb tc td).length = shapeTotal sh := by
  simp only [joined, List.length_append, List.length_singleton, ha, hb, hc, hd, shapeTotal]
  omega

omit hd in
/-- The separators of the shape of the parts hold ".". -/
theorem joined_getElem_of_isSep {k : Nat} (hk : k < (joined ta tb tc td).length) (hsep : IsSep sh k) :
    (joined ta tb tc td)[k] = 0x2E := by
  rw [isSep_iff] at hsep
  obtain rfl | rfl | rfl := hsep
  · exact getElem_append_cons (pre := ta) (post := tb ++ [0x2E] ++ tc ++ [0x2E] ++ td) hk (by simp [joined]) ha
  · exact getElem_append_cons (pre := ta ++ [0x2E] ++ tb) (post := tc ++ [0x2E] ++ td) hk (by simp [joined])
      (by simp only [List.length_append, List.length_singleton, ha, hb])
  · exact getElem_append_cons (pre := ta ++ [0x2E] ++ tb ++ [0x2E] ++ tc) (post := td) hk (by simp [joined])
      (by simp only [List.length_append, List.length_singleton, ha, hb, hc])

/-- The groups in the shape of the parts are the parts. -/
theorem groupText_joined :
    groupText (joined ta tb tc td) sh 0 = ta ∧ groupText (joined ta tb tc td) sh 1 = tb ∧
      groupText (joined ta tb tc td) sh 2 = tc ∧ groupText (joined ta tb tc td) sh 3 = td := by
  refine ⟨?_, ?_, ?_, ?_⟩
  · exact take_drop_append (pre := []) (post := [0x2E] ++ tb ++ [0x2E] ++ tc ++ [0x2E] ++ td) (by simp [joined]) rfl ha
  · exact take_drop_append (pre := ta ++ [0x2E]) (post := [0x2E] ++ tc ++ [0x2E] ++ td) (by simp [joined])
      (by simp only [List.length_append, List.length_singleton, ha, shapeStart]) hb
  · exact take_drop_append (pre := ta ++ [0x2E] ++ tb ++ [0x2E]) (post := [0x2E] ++ td) (by simp [joined])
      (by simp only [List.length_append, List.length_singleton, ha, hb, shapeStart]) hc
  · exact take_drop_append (pre := ta ++ [0x2E] ++ tb ++ [0x2E] ++ tc ++ [0x2E]) (post := []) (by simp [joined])
      (by simp only [List.length_append, List.length_singleton, ha, hb, hc, shapeStart]) hd

end Joined

/-! ## Literals -/

/-- An octet has one to three characters (R40). -/
theorem octetValue_length {t : List Byte} {v : Nat} (h : octetValue t = some v) : 1 ≤ t.length ∧ t.length ≤ 3 := by
  match t with
  | [] => cases h
  | [_] => simp
  | [_, _] => simp
  | [_, _, _] => simp
  | _ :: _ :: _ :: _ :: _ => cases h

/-- The values of the four groups of a text, in a shape. -/
def GroupValues (text : List Byte) (sh : Shape) (a b c d : Nat) : Prop :=
  octetValue (groupText text sh 0) = some a ∧ octetValue (groupText text sh 1) = some b ∧
    octetValue (groupText text sh 2) = some c ∧ octetValue (groupText text sh 3) = some d

/-- A literal has the length and the separators of a legal shape, and its octets as groups (R40, R44). -/
theorem exists_shape_of_isLiteral {text : List Byte} {a b c d : Nat} (h : IsLiteral text a b c d) :
    ∃ sh : Shape, sh.wellFormed = true ∧ text.length = shapeTotal sh ∧
      (∀ k (h : k < text.length), IsSep sh k → text[k] = 0x2E) ∧ GroupValues text sh a b c d := by
  obtain ⟨ta, tb, tc, td, rfl, ha, hb, hc, hd⟩ := h
  have hwf : (Shape.mk ta.length tb.length tc.length td.length).wellFormed = true :=
    (shape_wellFormed_iff _).2 ⟨octetValue_length ha, octetValue_length hb, octetValue_length hc, octetValue_length hd⟩
  obtain ⟨h0, h1, h2, h3⟩ := groupText_joined (ta := ta) (tb := tb) (tc := tc) (td := td) (sh := ⟨_, _, _, _⟩) rfl rfl rfl rfl
  exact ⟨_, hwf, joined_length rfl rfl rfl rfl, fun _ hk hsep => joined_getElem_of_isSep rfl rfl rfl hk hsep,
    (congrArg octetValue h0).trans ha, (congrArg octetValue h1).trans hb, (congrArg octetValue h2).trans hc,
    (congrArg octetValue h3).trans hd⟩

/-- A literal has at most 15 characters (R40). -/
theorem length_le_of_isLiteral {text : List Byte} {a b c d : Nat} (h : IsLiteral text a b c d) : text.length ≤ 15 := by
  obtain ⟨sh, hsh, hlen, -⟩ := exists_shape_of_isLiteral h
  exact hlen ▸ (shapeLen_bounds hsh 0).2.2.2

/-- The groups of a text that has a shape's length and separators are octets exactly when they pass the gates, and then their values
are the groups' sums. -/
theorem groupValues_iff {w : Window} {len : Nat} {sh : Shape} (hlen : len ≤ 15) (hsh : sh.wellFormed = true)
    (htotal : len = shapeTotal sh) (a b c d : Nat) :
    GroupValues (windowText w len) sh a b c d ↔
      (∀ g, GroupPasses w (shapeStart sh g) (shapeLen sh g)) ∧
        a = groupSum w (shapeStart sh 0) (shapeLen sh 0) ∧ b = groupSum w (shapeStart sh 1) (shapeLen sh 1) ∧
        c = groupSum w (shapeStart sh 2) (shapeLen sh 2) ∧ d = groupSum w (shapeStart sh 3) (shapeLen sh 3) := by
  have hgroup : ∀ (g : Fin 4) (v : Nat), octetValue (groupText (windowText w len) sh g) = some v ↔
      GroupPasses w (shapeStart sh g) (shapeLen sh g) ∧ v = groupSum w (shapeStart sh g) (shapeLen sh g) := fun g v => by
    obtain ⟨hpos, hle, hend, -⟩ := shapeLen_bounds hsh g
    rw [groupText_windowText w hlen (htotal ▸ hend), octetValue_eq_some_iff w _ hpos hle]
  rw [GroupValues, hgroup, hgroup, hgroup, hgroup, Fin.forall_fin_succ, Fin.forall_fin_succ, Fin.forall_fin_succ,
    Fin.forall_fin_succ]
  simp only [Fin.succ_zero_eq_one, Fin.succ_one_eq_two, IsEmpty.forall_iff, and_true]
  constructor
  · rintro ⟨⟨p0, va⟩, ⟨p1, vb⟩, ⟨p2, vc⟩, ⟨p3, vd⟩⟩
    exact ⟨⟨p0, p1, p2, p3⟩, va, vb, vc, vd⟩
  · rintro ⟨⟨p0, p1, p2, p3⟩, va, vb, vc, vd⟩
    exact ⟨⟨p0, va⟩, ⟨p1, vb⟩, ⟨p2, vc⟩, ⟨p3, vd⟩⟩

/-- Where every character of every group is a digit, a "." below the length is a separator. -/
theorem isSep_of_digits {w : Window} {sh : Shape}
    (hdigits : ∀ g j, j < shapeLen sh g → digitOf (charAt w (shapeStart sh g + j)) ≤ 9) {i : Fin 16}
    (hi : i.val < shapeTotal sh) (hw : w[i] = 0x2E) : IsSep sh i.val := by
  by_contra hno
  obtain ⟨g, hlow, hhigh⟩ := (exists_inGroup_iff sh i.val).2 ⟨hi, hno⟩
  have hdigit := hdigits g (i.val - shapeStart sh g) (by omega)
  rw [Nat.add_sub_cancel' hlow, charAt_of_lt w i.isLt] at hdigit
  exact ne_sep_of_digit hdigit hw

/-- Where every group passes, the only "." below the length are the separators. -/
theorem seps_of_groups {w : Window} {len : Nat} {sh : Shape} (hlen : len ≤ 15) (htotal : len = shapeTotal sh)
    (hseps : ∀ k (h : k < (windowText w len).length), IsSep sh k → (windowText w len)[k] = 0x2E)
    (hgroups : ∀ g, GroupPasses w (shapeStart sh g) (shapeLen sh g)) : SepsOfShape sh w len := by
  refine ⟨htotal, fun i hi => ⟨isSep_of_digits (fun g => (hgroups g).2.1) (htotal ▸ hi), fun hsep => ?_⟩⟩
  have hk : i.val < (windowText w len).length := by rwa [windowText_length w hlen]
  have hchar := hseps i.val hk hsep
  rwa [windowText_getElem, charAt_of_lt w i.isLt] at hchar

/-- The literals of a length are the texts of a legal shape whose groups pass the gates, and their values are the closed form's
sums (R40, R100). -/
theorem isLiteral_iff {w : Window} {len : Nat} (hlen : len ≤ 15) (a b c d : Nat) :
    IsLiteral (windowText w len) a b c d ↔
      refCause w len = none ∧ a = refSum w len 0 ∧ b = refSum w len 1 ∧ c = refSum w len 2 ∧ d = refSum w len 3 := by
  rw [refCause_eq_none_iff_groups]
  constructor
  · intro h
    obtain ⟨sh, hsh, hlength, hseps, hvalues⟩ := exists_shape_of_isLiteral h
    have htotal : len = shapeTotal sh := (windowText_length w hlen).symm.trans hlength
    obtain ⟨hgroups, hsums⟩ := (groupValues_iff hlen hsh htotal a b c d).1 hvalues
    have hshape := seps_of_groups hlen htotal hseps hgroups
    simp only [refSum_eq_groupSum hsh (refDesc_of_seps hsh hlen hshape)]
    exact ⟨⟨hlen, sh, hsh, hshape, hgroups⟩, hsums⟩
  · rintro ⟨⟨-, sh, hsh, hshape, hgroups⟩, hsums⟩
    simp only [refSum_eq_groupSum hsh (refDesc_of_seps hsh hlen hshape)] at hsums
    have hlength : (windowText w len).length = shapeTotal sh := (windowText_length w hlen).trans hshape.1
    refine ⟨_, _, _, _, join_groupText hlength fun k hk hsep => ?_,
      (groupValues_iff hlen hsh hshape.1 a b c d).2 ⟨hgroups, hsums⟩⟩
    have hk' : k < len := by rwa [windowText_length w hlen] at hk
    rw [windowText_getElem, charAt_of_lt w (by omega)]
    exact (hshape.2 ⟨k, by omega⟩ hk').2 hsep

/-! ## `PARSE` -/

/-- What `PARSE` leaves at the outputs: the closed form's result, or a rejection (R98). -/
theorem exists_parse (s : State) :
    ∃ t, exec .parse s = .next t ∧
      (refCause (Memory.lanes s.win) s.length = none ∧ t.txn.ok = some true ∧
          t.txn.res = some (refResult (Memory.lanes s.win) s.length) ∨
        refCause (Memory.lanes s.win) s.length ≠ none ∧ t.txn.ok = some false ∧ t.txn.res = some 0) :=
  ⟨_, (exec_parse s).trans (execParse_eq s),
    (refTxn_refStop_cases _ _).imp (fun ⟨hc, _, hok, hres⟩ => ⟨hc, hok, hres⟩) fun ⟨hc, _, hok, hres⟩ => ⟨hc, hok, hres⟩⟩

/-- The chain passes on the literals of at most 15 characters, and its result is their value (R100). -/
theorem refCause_eq_none_iff_literal (w : Window) (len : Nat) (v : BitVec 32) :
    refCause w len = none ∧ v = refResult w len ↔
      len ≤ 15 ∧ ∃ a b c d, IsLiteral (windowText w len) a b c d ∧ v = resultWord a b c d := by
  constructor
  · rintro ⟨hnone, rfl⟩
    have hlen := ((refCause_eq_none_iff_groups w len).1 hnone).1
    exact ⟨hlen, _, _, _, _, (isLiteral_iff hlen _ _ _ _).2 ⟨hnone, rfl, rfl, rfl, rfl⟩, rfl⟩
  · rintro ⟨hlen, a, b, c, d, hlit, rfl⟩
    obtain ⟨hnone, ha, hb, hc, hd⟩ := (isLiteral_iff hlen a b c d).1 hlit
    exact ⟨hnone, by rw [ha, hb, hc, hd, refResult]⟩

/-- Settles O44: the closed form accepts the literals, and `PARSE` leaves the closed form's outcome. -/
theorem parseAcceptsLiterals : Obligations.ParseAcceptsLiterals := by
  intro s v
  refine Iff.trans ?_ (refCause_eq_none_iff_literal (Memory.lanes s.win) s.length v)
  obtain ⟨t, hparse, hout⟩ := exists_parse s
  constructor
  · rintro ⟨u, hu, hok, hres⟩
    obtain rfl : t = u := Host.Outcome.next.inj (hparse.symm.trans hu)
    obtain ⟨hnone, -, hres'⟩ | ⟨-, hok', -⟩ := hout
    · exact ⟨hnone, Option.some.inj (hres.symm.trans hres')⟩
    · rw [hok] at hok'; cases hok'
  · rintro ⟨hnone, rfl⟩
    obtain ⟨-, hok, hres⟩ | ⟨hcause, -⟩ := hout
    · exact ⟨t, hparse, hok, hres⟩
    · exact absurd hnone hcause

end Sys2Proof.Machine
end

section
/-!
PROOFS of the family `other`, consequences of the accepted language: tail independence (R101), the public operation (R99), the round trip
(R103), and the length confirmation G2' (R73).
-/

namespace Sys2Proof.Machine

open Sys2Proof

/-! ## Tail independence -/

/-- The outcome depends on the text alone: the window beyond the length does not matter, nor any of it beyond a length of 15. -/
theorem refCause_congr {w w' : Window} {len : Nat} (h : len ≤ 15 → windowText w len = windowText w' len) (v : BitVec 32) :
    refCause w len = none ∧ v = refResult w len ↔ refCause w' len = none ∧ v = refResult w' len := by
  rw [refCause_eq_none_iff_literal, refCause_eq_none_iff_literal]
  exact and_congr_right fun hlen => by rw [h hlen]

theorem windowText_congr {m m' : Memory} {len : Nat} (hlen : len ≤ 15)
    (h : ∀ i, i < len → Memory.read m i = Memory.read m' i) :
    windowText (Memory.lanes m) len = windowText (Memory.lanes m') len := by
  refine List.ext_getElem (by rw [windowText_length _ hlen, windowText_length _ hlen]) fun i hi _ => ?_
  rw [windowText_length _ hlen] at hi
  rw [windowText_getElem, windowText_getElem, charAt_of_lt _ (by omega), charAt_of_lt _ (by omega), Memory.lanes_get,
    Memory.lanes_get, h i hi]

/-- Settles O45: the two runs are accepted together, with the same result, or rejected together. -/
theorem tailIndependence : Obligations.TailIndependence := by
  intro s s' hlen hread
  have htext : s.length ≤ 15 →
      windowText (Memory.lanes s.win) s.length = windowText (Memory.lanes s'.win) s.length :=
    fun hle => windowText_congr hle fun i hi => hread i hi (by omega) hle
  have hiff := refCause_congr htext
  obtain ⟨t, ht, hout⟩ := exists_parse s
  obtain ⟨t', ht', hout'⟩ := exists_parse s'
  rw [← hlen] at hout'
  refine ⟨t, t', ht, ht', ?_⟩
  obtain ⟨hnone, hok, hres⟩ | ⟨hcause, hok, hres⟩ := hout <;>
    obtain ⟨hnone', hok', hres'⟩ | ⟨hcause', hok', hres'⟩ := hout'
  · have hle := ((refCause_eq_none_iff_groups _ _).1 hnone).1
    exact ⟨hok.trans hok'.symm, by rw [hres, hres', ((hiff _).1 ⟨hnone, rfl⟩).2], fun hlong => by omega⟩
  · exact absurd ((hiff _).1 ⟨hnone, rfl⟩).1 hcause'
  · exact absurd ((hiff _).2 ⟨hnone', rfl⟩).1 hcause
  · exact ⟨hok.trans hok'.symm, hres.trans hres'.symm, fun _ => ⟨hok, hres⟩⟩

/-! ## The public operation -/

/-- The text that `LOAD` leaves at the ports for a buffer of at most 15 bytes is the buffer's (R32). -/
theorem windowText_load {win : Memory} (hwf : Memory.wf 16 win = true) {bytes : List Byte} (h : bytes.length ≤ 15) :
    windowText (Memory.lanes (Memory.writeFrom win 0 (loadBytes (Memory.ofBytes bytes) bytes.length))) bytes.length =
      bytes := by
  refine List.ext_getElem (windowText_length _ h) fun i _ hi => ?_
  rw [windowText_getElem, charAt_of_lt _ (by omega), Memory.lanes_get, read_loadBytes hwf, if_pos (by omega), loadByte,
    if_pos (by omega), Memory.read_ofBytes, List.getD_eq_getElem _ _ hi]

/-- A port of at least 5 bits shows a length of at most 15 as it is (R7, R32). -/
theorem loadLength_of_le {lenW n : Nat} (hw : 5 ≤ lenW) (hn : n ≤ 15) : loadLength lenW n = n := by
  have hpow : 2 ^ 5 ≤ 2 ^ lenW := Nat.pow_le_pow_right (by decide) hw
  unfold loadLength
  omega

/-- The three steps of the public operation: the buffer is filled, `LOAD` fills the ports, and `PARSE` runs on them (R99). -/
theorem run_public {s : State} {bytes : List Byte} (hready : s.Ready) (hreq : s.requests = [.buffer bytes, .load, .parse]) :
    ∃ u t : State, Host.Core.run core 3 s = .next t ∧ exec .parse u = .next t ∧
      u.win = Memory.writeFrom s.win 0 (loadBytes (Memory.ofBytes bytes) bytes.length) ∧
      u.length = loadLength s.lenW bytes.length := by
  have hfill := step_of_host ((fetch_of_ready hready).trans (fetchRequest_buffer (s := s.retire) hreq))
  generalize hs1 : (s.retire.setRequests [.load, .parse]).setHost (Memory.ofBytes bytes) bytes.length = s1 at hfill
  have hs1ready : s1.Ready := fun ord h => by
    rw [← hs1] at h
    simp [Txn.empty] at h
  have hs1req : s1.requests = [.load, .parse] := by rw [← hs1]; rfl
  have hload := (step_of_fetch_code ((fetch_of_ready hs1ready).trans (fetchRequest_load (s := s1.retire) hs1req))
    (decode_encode .load)).trans (exec_load _)
  rw [execLoad] at hload
  generalize hs2 : ((s1.retire.setRequests [.parse]).setWin _).setLength _ = s2 at hload
  have hs2ready : s2.Ready := fun ord h => by
    rw [← hs2] at h
    simp [Txn.empty] at h
  have hs2req : s2.requests = [.parse] := by rw [← hs2]; rfl
  have hparse := step_of_fetch_code ((fetch_of_ready hs2ready).trans (fetchRequest_parse (s := s2.retire) hs2req))
    (decode_encode .parse)
  obtain ⟨t, ht, -⟩ := exists_parse (s2.retire.setRequests [])
  refine ⟨_, t, ?_, ht, ?_, ?_⟩
  · exact (run_succ_of_next 2 hfill).trans ((run_succ_of_next 1 hload).trans (run_succ_of_next 0 (hparse.trans ht)))
  · rw [← hs2, ← hs1]
    simp
  · rw [← hs2, ← hs1]
    simp

/-- What the public operation leaves: the value of the text, if it is a literal, or a rejection, if it is none (R99, R100). -/
theorem public_outcome {s : State} {bytes : List Byte} (hready : s.Ready) (hwf : Memory.wf 16 s.win = true) (hw : 5 ≤ s.lenW)
    (hreq : s.requests = [.buffer bytes, .load, .parse]) :
    ∃ t : State, Host.Core.run core 3 s = .next t ∧
      ((∀ a b c d, IsLiteral bytes a b c d → t.txn.ok = some true ∧ t.txn.res = some (resultWord a b c d)) ∧
        ((¬∃ a b c d, IsLiteral bytes a b c d) → t.txn.ok = some false ∧ t.txn.res = some 0)) := by
  obtain ⟨u, t, hrun, hparse, hwin, hlength⟩ := run_public hready hreq
  have haccept := parseAcceptsLiterals u
  refine ⟨t, hrun, fun a b c d hlit => ?_, fun hno => ?_⟩
  · have hle := length_le_of_isLiteral hlit
    have hulen : u.length = bytes.length := hlength.trans (loadLength_of_le hw hle)
    have htext : (Memory.lanes u.win).toList.take u.length = bytes := by
      rw [hulen, hwin]
      exact windowText_load hwf hle
    obtain ⟨t', ht', hok, hres⟩ := (haccept (resultWord a b c d)).2
      ⟨by omega, a, b, c, d, by rw [htext]; exact hlit, rfl⟩
    rw [hparse, Host.Outcome.next.injEq] at ht'
    exact ht' ▸ ⟨hok, hres⟩
  · obtain ⟨t', ht', hout⟩ := exists_parse u
    rw [hparse, Host.Outcome.next.injEq] at ht'
    subst ht'
    obtain ⟨-, hok, hres⟩ | ⟨-, hok, hres⟩ := hout
    · obtain ⟨hle, a, b, c, d, hlit, -⟩ := (haccept _).1 ⟨t, hparse, hok, hres⟩
      have hshort : bytes.length ≤ 15 := by
        by_contra hlong
        have := lt_loadLength hw (not_le.1 hlong)
        omega
      rw [hlength, loadLength_of_le hw hshort, hwin] at hlit
      exact absurd ⟨a, b, c, d, (windowText_load hwf hshort) ▸ hlit⟩ hno
    · exact ⟨hok, hres⟩

/-- Settles O46: a text is a literal or it is not. -/
theorem publicOperation : Obligations.PublicOperation := by
  intro s bytes hready hwf hw hreq
  obtain ⟨t, hrun, hyes, hno⟩ := public_outcome hready hwf hw hreq
  refine ⟨t, hrun, ?_⟩
  by_cases h : ∃ a b c d, IsLiteral bytes a b c d
  · obtain ⟨a, b, c, d, hlit⟩ := h
    exact .inl ⟨a, b, c, d, hlit, hyes a b c d hlit⟩
  · exact .inr ⟨h, hno h⟩

/-! ## The round trip -/

/-- The character of a digit has the digit's value (R41). -/
theorem digitOf_ofNat {k : Nat} (h : k ≤ 9) : digitOf (BitVec.ofNat 8 (0x30 + k)) = k := by
  rw [digitOf, BitVec.toNat_ofNat]
  omega

/-- A numeral begins with no "0" unless it is the one digit 0. -/
theorem ofNat_ne_zero_char {k : Nat} (hpos : 1 ≤ k) (h : k ≤ 9) : BitVec.ofNat 8 (0x30 + k) ≠ 0x30 := by
  rw [Ne, eq_zero_iff_digitOf, digitOf_ofNat h]
  omega

/-- The numeral of a byte is an octet with the byte's value (R40, R103). -/
theorem octetValue_numeral (b : Byte) : octetValue (numeral b.toNat) = some b.toNat := by
  have hb : b.toNat < 256 := b.isLt
  generalize b.toNat = n at hb
  simp only [numeral]
  split_ifs with h10 h100
  · rw [octetValue_one, digitOf_ofNat (by omega)]
    omega
  · rw [octetValue_two, digitOf_ofNat (by omega), digitOf_ofNat (by omega)]
    exact ⟨by omega, ofNat_ne_zero_char (by omega) (by omega), by omega⟩
  · rw [octetValue_three, digitOf_ofNat (by omega), digitOf_ofNat (by omega), digitOf_ofNat (by omega)]
    exact ⟨by omega, ofNat_ne_zero_char (by omega) (by omega), by omega, by omega⟩

/-- A word is made of its four bytes (R27). -/
theorem resultWord_extractLsb' (v : BitVec 32) :
    resultWord (v.extractLsb' 0 8).toNat (v.extractLsb' 8 8).toNat (v.extractLsb' 16 8).toNat (v.extractLsb' 24 8).toNat =
      v := by
  have hv := v.isLt
  apply BitVec.eq_of_toNat_eq
  simp only [resultWord, BitVec.toNat_ofNat, BitVec.extractLsb'_toNat, Nat.shiftRight_eq_div_pow]
  omega

/-- The text of a value is a literal with the value's bytes (R103). -/
theorem isLiteral_addressText (v : BitVec 32) :
    IsLiteral (addressText v) (v.extractLsb' 0 8).toNat (v.extractLsb' 8 8).toNat (v.extractLsb' 16 8).toNat
      (v.extractLsb' 24 8).toNat :=
  ⟨_, _, _, _, rfl, octetValue_numeral _, octetValue_numeral _, octetValue_numeral _, octetValue_numeral _⟩

/-- Settles O47. -/
theorem roundTrip : Obligations.RoundTrip := by
  intro s v hready hwf hw hreq
  obtain ⟨t, hrun, hyes, -⟩ := public_outcome hready hwf hw hreq
  have hout := hyes _ _ _ _ (isLiteral_addressText v)
  rw [resultWord_extractLsb'] at hout
  exact ⟨t, hrun, hout⟩

/-! ## The length confirmation -/

/-- The gates with G2' in place of G2 (R73). -/
def lengthGate (w : Window) (len : Nat) : Cause → Bool
  | .shapeConfirm => lengthConfirms len (descrom (chainPid w len))
  | .len => chainGate w len .len
  | .shapeHash => chainGate w len .shapeHash
  | .leadingZero => chainGate w len .leadingZero
  | .digitRange => chainGate w len .digitRange
  | .overflow => chainGate w len .overflow

theorem parseByLength_eq_gated (w : Window) (len : Nat) :
    parseByLength w len = gated (lengthGate w len) (packValue (narrowValue (chainSums w len))) := rfl

/-- G2' asks for the length of the selected shape: its last character stands in the ones lane of the last group (R50, R73). -/
theorem lengthConfirms_iff {sh : Shape} (h : sh.wellFormed = true) (len : Nat) :
    lengthConfirms len (shapeDescriptor sh) = true ↔ len = shapeTotal sh := by
  obtain ⟨hpos, hle, hend, htotal⟩ := shapeLen_bounds h 3
  have hlast : shapeStart sh 3 + shapeLen sh 3 = shapeTotal sh := by
    simp only [shapeStart, shapeLen, shapeTotal]
    omega
  have hones : (shapeDescriptor sh)[onesLane 3] = .index ⟨shapeTotal sh - 1, by omega⟩ := by
    rw [shapeDescriptor_onesLane, selAt_eq_index_iff, hlast]
  rw [lengthConfirms, hones, beq_iff_eq]
  simp only
  omega

/-- Which separators are kept, one choice for each of the three. -/
def keepSeps (sh : Shape) (b0 b1 b2 : Bool) (k : Nat) : Bool :=
  if k = sh.l0 then b0 else if k = sh.l0 + 1 + sh.l1 then b1 else b2

/-- Of the bitmaps with a legal shape's guard and some of its separators, only the shape's own has its hash code. This evaluates the
hash of the 81 × 8 of them. -/
theorem sepBitmap_of_refHash :
    ∀ (p : Fin Config.nPat) (b0 b1 b2 : Bool),
      refHash (sepBitmap (pidShape p) (keepSeps (pidShape p) b0 b1 b2)) = refHash (shapeBitmap (pidShape p)) →
        sepBitmap (pidShape p) (keepSeps (pidShape p) b0 b1 b2) = shapeBitmap (pidShape p) := by
  decide

theorem keepSeps_of_isSep {sh : Shape} (f : Nat → Bool) {k : Nat} (h : IsSep sh k) :
    keepSeps sh (f sh.l0) (f (sh.l0 + 1 + sh.l1)) (f (sh.l0 + 1 + sh.l1 + 1 + sh.l2)) k = f k := by
  rw [isSep_iff] at h
  obtain rfl | rfl | rfl := h
  · rw [keepSeps, if_pos rfl]
  · rw [keepSeps, if_neg (by omega), if_pos rfl]
  · rw [keepSeps, if_neg (by omega), if_neg (by omega)]

/-- A window whose only "." are separators of a shape of its length has a bitmap with some of the shape's separators. -/
theorem refBitmap_eq_sepBitmap {sh : Shape} {w : Window} {len : Nat} (hlen : len ≤ 15) (htotal : len = shapeTotal sh)
    (hsub : ∀ i : Fin 16, i.val < len → w[i] = 0x2E → IsSep sh i.val) :
    ∃ b0 b1 b2, refBitmap w len = sepBitmap sh (keepSeps sh b0 b1 b2) := by
  refine ⟨decide (charAt w sh.l0 = 0x2E), decide (charAt w (sh.l0 + 1 + sh.l1) = 0x2E),
    decide (charAt w (sh.l0 + 1 + sh.l1 + 1 + sh.l2) = 0x2E), bitmap_eq_of_getLsbD fun i => ?_⟩
  rw [refBitmap_getLsbD_iff w hlen, sepBitmap_getLsbD, ← htotal]
  have hkeep := keepSeps_of_isSep (sh := sh) (k := i.val) fun k => decide (charAt w k = 0x2E)
  constructor
  · rintro (⟨hlt, hw⟩ | hguard)
    · have hsep := hsub i hlt hw
      refine .inr ⟨(hkeep hsep).trans (decide_eq_true ?_), hsep⟩
      rwa [charAt_of_lt w i.isLt]
    · exact .inl hguard
  · rintro (hguard | ⟨hk, hsep⟩)
    · exact .inr hguard
    · have hw := of_decide_eq_true ((hkeep hsep).symm.trans hk)
      rw [charAt_of_lt w i.isLt] at hw
      exact .inl ⟨htotal ▸ hsep.lt, hw⟩

/-- A live PatternID stands at the hash code of its own shape (R47). -/
theorem refHash_shapeBitmap_of_live {h : Byte} (hlive : (pidrom h).toNat < 81) :
    refHash (shapeBitmap (pidShape (pidrom h).toNat)) = h := by
  obtain hsentinel | ⟨-, hcode⟩ := pidrom_sentinel_or_live h
  · rw [hsentinel] at hlive
    exact absurd hlive (by decide)
  · exact hcode

/-- When G0, G1 and G4 pass, the length confirms the shape exactly when the bitmap does: the digits leave "." at the separators
alone, and no bitmap with fewer separators has the shape's hash code (R73). -/
theorem lengthConfirms_iff_shapeConfirm {w : Window} {len : Nat} (h0 : refGate w len .len = true)
    (h1 : refGate w len .shapeHash = true) (h4 : refGate w len .digitRange = true) :
    lengthConfirms len (refDesc w len) = true ↔ refGate w len .shapeConfirm = true := by
  constructor
  · intro hconfirm
    have hlen := (refGate_len_iff w len).1 h0
    have hlive := (refGate_shapeHash_iff w len).1 h1
    have hsh := pidShape_wellFormed hlive
    have hdesc : refDesc w len = shapeDescriptor (pidShape (refPid w len).toNat) := descrom_of_lt hlive
    rw [hdesc, lengthConfirms_iff hsh] at hconfirm
    have hdigits := (refGate_digitRange_iff_groups hsh hdesc).1 h4
    obtain ⟨b0, b1, b2, hbm⟩ := refBitmap_eq_sepBitmap hlen hconfirm fun i hi =>
      isSep_of_digits hdigits (hi.trans_eq hconfirm)
    have hhash := refHash_shapeBitmap_of_live hlive
    rw [refGate_shapeConfirm_iff, xbmrom_of_lt hlive, hbm]
    exact sepBitmap_of_refHash ⟨(refPid w len).toNat, hlive⟩ b0 b1 b2 (by rw [← hbm]; exact hhash.symm)
  · intro h2
    obtain ⟨sh, hsh, -, hseps, hdesc⟩ := exists_shape_of_gates h0 h1 h2
    rw [hdesc, lengthConfirms_iff hsh]
    exact hseps.1

/-- The other five gates are the same in both builds. -/
theorem lengthGate_of_ne (w : Window) (len : Nat) {c : Cause} (hc : c ≠ .shapeConfirm) :
    lengthGate w len c = chainGate w len c := by
  cases c with
  | shapeConfirm => exact absurd rfl hc
  | _ => rfl

/-- When the other five gates pass, so does the one exactly when the other does (R73). -/
theorem lengthGate_shapeConfirm_iff {w : Window} {len : Nat} (h : ∀ c, c ≠ .shapeConfirm → chainGate w len c = true) :
    lengthGate w len .shapeConfirm = true ↔ chainGate w len .shapeConfirm = true := by
  have hlen : len ≤ 15 := (refGate_len_iff w len).1 (h .len nofun)
  rw [chainGate_eq hlen] at h ⊢
  rw [lengthGate, chainPid_eq hlen]
  exact lengthConfirms_iff_shapeConfirm (h _ nofun) (h _ nofun) (h _ nofun)

/-- Both confirmations let the same inputs through all six gates (R73). -/
theorem lengthGate_all_iff (w : Window) (len : Nat) : (∀ c, lengthGate w len c = true) ↔ ∀ c, chainGate w len c = true := by
  have hsame : ∀ c, c ≠ .shapeConfirm → lengthGate w len c = chainGate w len c := fun _ => lengthGate_of_ne w len
  constructor
  · intro h c
    by_cases hc : c = .shapeConfirm
    · rw [hc, ← lengthGate_shapeConfirm_iff fun c' hc' => (hsame c' hc').symm.trans (h c')]
      exact h _
    · rw [← hsame c hc, h]
  · intro h c
    by_cases hc : c = .shapeConfirm
    · rw [hc, lengthGate_shapeConfirm_iff fun c' _ => h c']
      exact h _
    · rw [hsame c hc, h]

/-- Settles O49: the two builds let the same inputs through, with the same value. -/
theorem lengthConfirmationAgrees : Obligations.LengthConfirmationAgrees := by
  intro w len
  have hall : causes.all (lengthGate w len) = causes.all (chainGate w len) := by
    rw [Bool.eq_iff_iff, List.all_eq_true, List.all_eq_true]
    simpa only [mem_causes, forall_true_left] using lengthGate_all_iff w len
  rw [parseByLength_eq_gated, parseOutcome_eq_gated, outcomeValue_gated, outcomeValue_gated, hall]

end Sys2Proof.Machine
end
